-- ==== Sys2Proof/Word.lean ====
section
/-! DEFINITION. The byte: the one word that the ports of the NB4812 carry (R142, R144).
Quantities of the part (CU, drive levels, ticks) are numbers and are kept as Nat; bit vectors stand only where the
spec treats a value as bits: bytes on the wire, generations and counters that wrap, and sets sent as masks. -/

namespace Sys2Proof

/-- One byte on a port's data lines; bit 7 is the most significant. -/
abbrev Byte := BitVec 8

/-- The number a byte carries. -/
abbrev Byte.val (b : Byte) : Nat := b.toNat

end Sys2Proof
end

