-- ==== Sys2Proof/Syntax.lean ====
section
/-! DEFINITION. The commands of the block: one constructor for each row of spec/opcode_table.json, in the table's
order. A row is one of the part's steps, each whole and indivisible (spec/95_what_each_step_holds.md).

The rows from `unknownOpcode` to `restart` are the EXECUTOR's steps: the executor takes the command that waits in a
port's command slot (R151). Such a step carries no operand of its own: its sender, tag, length and payload stand in the
command slot, where COMMAND_TRANSACTION put them (R141, R146), and its meaning reads them there
(notes/assumptions/1.md). -/

namespace Sys2Proof

/-- The four ports A to D (00_scope, Numbering and naming). -/
inductive Port where
  | A | B | C | D
deriving DecidableEq, Repr

/-- A channel CH0 to CH11. -/
abbrev Channel := Fin 12

/-- A fault pin FLT0 to FLT3. -/
abbrev FltPin := Fin 4

/-- Which stretch of a transaction a transaction row is (R142). A transaction that no other action comes into is one row,
`whole`; one during which other actions are taken is several, one after another (notes/assumptions/13.md). -/
inductive Stretch where
  /-- From the assertion of the port's select line to its deassertion. -/
  | whole
  /-- From the assertion on. -/
  | first
  /-- Neither the assertion nor the deassertion is in it. -/
  | inner
  /-- Up to the deassertion. -/
  | last
deriving DecidableEq, Repr

/-- The commands. Levels of pins are Bool, true for a high level. `bytes` of a transaction row are the whole bytes that the
master clocks in during its stretch; the transaction code is the first of the transaction (R142). -/
inductive Instr where
  /-- POWER_ON_RESET (R156): supply applied, or below the brown-out level. -/
  | powerOnReset
  /-- PIN_RESET (R156): RESETn asserted. -/
  | pinReset
  /-- RESET_RELEASE (R116): the levels on SUPV1, SUPV0, FLT0 to FLT3 and DERATE as the reset is released. -/
  | resetRelease (supv1 supv0 : Bool) (flt : Vector Bool 4) (derate : Bool)
  /-- DERATE_EVENT (R22): the level DERATE has taken, having persisted for 1 µs or more. -/
  | derateEvent (level : Bool)
  /-- FLT_PIN_CHANGE (R102): the level the FLT pin has taken, having persisted for 1 µs or more. -/
  | fltPinChange (pin : FltPin) (level : Bool)
  /-- SCAN_CYCLE_START (R87). -/
  | scanCycleStart
  /-- CHANNEL_CONVERSION_END (R90): the channel, and the level on its sense input in codes of 0.5 mV, before the
  converter limits it to its range (R89). -/
  | channelConversionEnd (ch : Channel) (input : Int)
  /-- RAIL_CONVERSION_END (R93): the level on the rail sense input, in codes of 0.5 mV, before the limit of R89. -/
  | railConversionEnd (input : Int)
  /-- LEASE_TICK (R119): a tick of the port's session. -/
  | leaseTick (p : Port)
  /-- LEASE_EXPIRY (R124): the tick of the port's session that brings the time remaining to 0. -/
  | leaseExpiry (p : Port)
  /-- FRAME_START (R172): an output frame starts. -/
  | frameStart
  /-- SLOT_START (R171): a modulator slot starts. -/
  | slotStart
  /-- COMMAND_TRANSACTION (R146): a transaction with the code 0xC5, or a stretch of one. -/
  | commandTransaction (p : Port) (part : Stretch) (bytes : List Byte)
  /-- FETCH (R147): a transaction with the code 0xF0, or a stretch of one. -/
  | fetch (p : Port) (part : Stretch) (bytes : List Byte)
  /-- STATUS_TRANSACTION (R148): a transaction with the code 0x3C, or a stretch of one. -/
  | statusTransaction (p : Port) (part : Stretch) (bytes : List Byte)
  /-- PORT_RESET (R149): a transaction that begins 0xA9, or a stretch of one. -/
  | portReset (p : Port) (part : Stretch) (bytes : List Byte)
  /-- UNKNOWN_OPCODE (R152): the executor takes a command whose opcode is none of R157 to R169. -/
  | unknownOpcode
  /-- OPEN, opcode 0x01 (R118). -/
  | openSession
  /-- CLOSE, opcode 0x02 (R126). -/
  | closeSession
  /-- RENEW, opcode 0x03 (R121). -/
  | renew
  /-- SET_LEASE, opcode 0x04 (R122). -/
  | setLease
  /-- STATUS, opcode 0x05 (R157). -/
  | status
  /-- CLAIM, opcode 0x10 (R9). -/
  | claim
  /-- ADJUST, opcode 0x11 (R13). -/
  | adjust
  /-- RELEASE, opcode 0x12 (R14). -/
  | release
  /-- REVOKE, opcode 0x4A (R15). -/
  | revoke
  /-- QUERY_CLAIM, opcode 0x13 (R161). -/
  | queryClaim
  /-- QUERY_BUDGET, opcode 0x30 (R162). -/
  | queryBudget
  /-- QUERY_CHANNEL, opcode 0x20 (R163). -/
  | queryChannel
  /-- CLEAR_TRIP, opcode 0x21 (R83). -/
  | clearTrip
  /-- SOFT_TRIP, opcode 0x22 (R110). -/
  | softTrip
  /-- TAKE_NOTICE, opcode 0x31 (R136). -/
  | takeNotice
  /-- SET_BUDGET, opcode 0x40 (R21). -/
  | setBudget
  /-- SET_SCAN, opcode 0x43 (R88). -/
  | setScan
  /-- SET_RAIL, opcode 0x44 (R95). -/
  | setRail
  /-- CLEAR_RAIL, opcode 0x45 (R96). -/
  | clearRail
  /-- SET_CHANNEL_LOOP, opcode 0x41 (R46). -/
  | setChannelLoop
  /-- SET_CHANNEL_LIMITS, opcode 0x42 (R47). -/
  | setChannelLimits
  /-- SET_GROUP, opcode 0x46 (R108). -/
  | setGroup
  /-- CLEAR_GROUP, opcode 0x47 (R109). -/
  | clearGroup
  /-- SET_PINS, opcode 0x48 (R103). -/
  | setPins
  /-- SET_QUOTA, opcode 0x49 (R130). -/
  | setQuota
  /-- EVICT, opcode 0x4B (R127). -/
  | evict
  /-- RESTART, opcode 0x4C (R169). -/
  | restart
  /-- PORT_SELECT_DEASSERTED_AFTER_RESET (R141). -/
  | portSelectDeassertedAfterReset (p : Port)
deriving DecidableEq, Repr

end Sys2Proof
end

