-- ==== Sys2Proof/Decode.lean ====
section
/-! DEFINITION. The table's words. The part has no instruction decoder: spec/opcode_table.json gives no row any bits
(its "fields" are empty), so no word spells a command. The bytes of a command frame and the payload of each command are
decoded where the spec decodes them, by the port and by the executor (Machine/Frames.lean, Machine/Operands.lean). -/

namespace Sys2Proof

/-- The command that a word of the table spells: none, since the table gives no row a word. -/
def decodeTableWord (_nbits _w : Nat) : Option Instr := none

end Sys2Proof
end

