-- ==== Sys2Proof/Machine/State.lean ====
section
/-! DEFINITION. The state of the part, block by block, as plain data, and the state that power-on reset leaves.
INVENTORY.md lists every field with the rule that names it. -/

namespace Sys2Proof.Machine

/-- One value for each port. -/
structure PerPort (α : Type) where
  a : α
  b : α
  c : α
  d : α
deriving DecidableEq, Repr

/-! ### Claims (R1, R2) -/

/-- A claim's handle: a slot and a generation (R2). -/
structure Handle where
  gen : BitVec 8
  slot : Fin 24
deriving DecidableEq, Repr

/-- R1: PENDING or GRANTED. -/
inductive ClaimState where
  | pending | granted
deriving DecidableEq, Repr

/-- A claim record (R1). Its handle is the slot it stands in with that slot's generation, which does not change while
the record lives (R2). -/
structure Claim where
  port : Port
  channel : Channel
  amount : Nat
  cls : Fin 4
  stamp : Nat
  state : ClaimState
  shed : Nat
deriving DecidableEq, Repr

/-- A slot of the claim table: its generation, and its record when it is occupied (R1, R2). -/
structure Slot where
  gen : BitVec 8
  record : Option Claim
deriving DecidableEq, Repr

/-! ### Budget (R20 to R27) -/

/-- Active low or active high (R103). -/
inductive Polarity where
  | activeLow | activeHigh
deriving DecidableEq, Repr

/-- The allocator's budgets, its DERATE input and its running sums. The headroom is not stored (R27). -/
structure Budget where
  normal : Nat
  derated : Nat
  /-- The effective budget (R23). -/
  effective : Nat
  /-- The granted sum (R25). -/
  granted : Nat
  /-- The releasing sum (R26). -/
  releasing : Nat
  /-- DERATE's sampled level, true for high (R22). -/
  derateLevel : Bool
  deratePolarity : Polarity
  /-- DERATE's sampled asserted state (R22). -/
  derateOn : Bool
deriving DecidableEq, Repr

/-! ### Channel loops (R42 to R45) -/

/-- The eight loop states (R44). -/
inductive LoopState where
  | idle | ramp | bisect | track | limited | held | releasing | tripped
deriving DecidableEq, Repr

/-- A direction of votes or of an adjustment (R43). -/
inductive Direction where
  | none | up | down
deriving DecidableEq, Repr

/-- A channel's configuration (R45). -/
structure ChannelConfig where
  enable : Bool
  start : Nat
  rampStep : Nat
  downStep : Nat
  deadband : Nat
  averaging : Nat
  rating : Nat
  ceiling : Nat
  guard : Nat
  gain : Nat
deriving DecidableEq, Repr

/-- A channel record (R42), with the settle working values of R43. -/
structure ChannelRecord where
  state : LoopState
  drive : Nat
  target : Nat
  holder : Option Handle
  /-- The hold attribute (R68). -/
  hold : Bool
  lastBelow : Nat
  lo : Nat
  hi : Nat
  voteDir : Direction
  voteCount : Nat
  /-- The confirmation length L. -/
  confirm : Nat
  run : Nat
  lastAdjust : Direction
  strikes : Nat
  settled : Bool
  measured : Nat
  tripOwner : Option Port
  tripValue : Nat
  config : ChannelConfig
deriving DecidableEq, Repr

/-! ### Scanner (R87 to R98) -/

/-- A channel's averaging window (R90). -/
structure Window where
  sum : Nat
  count : Nat
deriving DecidableEq, Repr

/-- The scanner's state. `position` is the scan schedule: the slot of the present cycle that ends next, 0 to 11 for the
channels, 12 for RAIL and 13 when the cycle is complete (R87). -/
structure Scanner where
  period : Nat
  pendingPeriod : Option Nat
  windows : Vector Window 12
  railLimit : Nat
  railGain : Nat
  railValue : Nat
  railFlag : Bool
  counter : BitVec 16
  position : Nat
deriving DecidableEq, Repr

/-! ### Trip unit (R100 to R107) -/

/-- FOLLOW or LATCH (R100). -/
inductive GroupMode where
  | follow | latch
deriving DecidableEq, Repr

/-- A group's state (R100). -/
inductive GroupState where
  | idle | active | latched
deriving DecidableEq, Repr

/-- A trip group: its input set and target set as the masks of R168, its mode and its state (R100). -/
structure Group where
  inputs : BitVec 10
  targets : BitVec 12
  mode : GroupMode
  state : GroupState
deriving DecidableEq, Repr

/-- The trip unit: its groups, the recorded state of each of its ten inputs (R101; bit numbers of R168), each FLT pin's
sampled level and polarity (R102, R103), and FAULT (R107). -/
structure TripUnit where
  groups : Vector Group 4
  inputs : BitVec 10
  fltLevel : Vector Bool 4
  fltPolarity : Vector Polarity 4
  fault : Bool
deriving DecidableEq, Repr

/-! ### Sessions (R115) -/

/-- A session's state (R115). -/
inductive SessionState where
  | closed | opened | lapsed
deriving DecidableEq, Repr

/-- A session record (R115). -/
structure Session where
  state : SessionState
  current : Option Nat
  next : Option Nat
  remaining : Nat
  warned : Bool
  floor : Fin 4
  quota : Nat
  soft : Bool
  supervisor : Bool
deriving DecidableEq, Repr

/-! ### Notices (R131 to R138) -/

/-- The eleven kinds of notice (R132). -/
inductive Kind where
  | granted | settled | limited | shed | revoked | held | resumed | tripped | budget | leaseWarn | overflow
deriving DecidableEq, Repr

/-- A notice record (R131). `kindsLost` is the mask of R165: bit k for the kind of code k. -/
structure Notice where
  kind : Kind
  stamp : BitVec 16
  channel : Option Channel
  handle : Option Handle
  value : Option Nat
  derate : Option Bool
  kindsLost : BitVec 16
  lostCount : Nat
deriving DecidableEq, Repr

/-- A port's notice queue, oldest first (R134), its overflow summary (R135) and its ATTN line (R138). -/
structure NoticeQueue where
  queue : List Notice
  lostKinds : BitVec 16
  lostCount : Nat
  attn : Bool
deriving DecidableEq, Repr

/-! ### Ports and executor (R141, R151, R156) -/

/-- The status codes (R153). -/
inductive Status where
  | ok | none | badFrame | unknown | badOperand | noSession | lapsed | notSupervisor | state | full | quota
  | duplicate | cls | disabled | overRating | tooLarge | stale | notOwner | short | channelBusy | stillHigh
  | stillActive | empty
deriving DecidableEq, Repr

/-- A waiting command (R141). Its length is its payload's length, since the frame was good (R144). -/
structure Command where
  opcode : Byte
  tag : Byte
  payload : List Byte
deriving DecidableEq, Repr

/-- A response (R141, R150). Its length is its payload's length. -/
structure Response where
  status : Status
  tag : Byte
  opcode : Byte
  payload : List Byte
deriving DecidableEq, Repr

/-- A transaction in progress (R141, R142): the port status byte formed as the select line was asserted, the whole bytes
received since, and the bytes of a response frame that a fetch has yet to shift out (R147). -/
structure Transaction where
  shown : Byte
  received : List Byte
  reply : List Byte
deriving DecidableEq, Repr

/-- A port (R141). `listening` is clear from a reset until the port has seen its select line deasserted.
`transaction` is the transaction in progress while the select line is asserted, and `dataOut` holds the bytes that the
port has shifted out during its latest transaction (R142). -/
structure PortState where
  command : Option Command
  response : Option Response
  collided : Bool
  overwritten : Bool
  listening : Bool
  transaction : Option Transaction
  dataOut : List Byte
deriving DecidableEq, Repr

/-- The reset cause (R156). -/
inductive ResetCause where
  | powerOn | pin | restart
deriving DecidableEq, Repr

/-! ### Drive modulators (R170, R171) -/

/-- A drive modulator. `high` is the number of clocks, 0 to 64, for which its pin is high from the start of the present
slot (R171). -/
structure Modulator where
  level : Nat
  acc : Nat
  high : Nat
deriving DecidableEq, Repr

/-- The whole part, and the queue of the commands that wait to be taken. -/
structure State where
  /-- The claim table (R1). -/
  slots : Vector Slot 24
  /-- The stamp counter (R4). -/
  stamp : Nat
  /-- Each port's count of occupied slots (R5). -/
  counts : PerPort Nat
  budget : Budget
  /-- Each channel's release amount, 0 when it has none (R26, R36). -/
  releases : Vector Nat 12
  channels : Vector ChannelRecord 12
  scan : Scanner
  trip : TripUnit
  sessions : PerPort Session
  notices : PerPort NoticeQueue
  ports : PerPort PortState
  /-- The executor's round-robin pointer (R151). -/
  pointer : Port
  /-- The reset cause (R156). -/
  cause : ResetCause
  modulators : Vector Modulator 12
  /-- The number of slots of the present output frame that have started, 0 to 64 (R170). -/
  frameSlot : Nat
  /-- Whether power-on reset or pin reset is held. -/
  resetHeld : Bool
  /-- MODEL'S OWN: how many free choices have been taken (Config.tripanyFirst, Config.pinKey). -/
  choice : Nat
  /-- The commands that wait to be taken, first in, first out. -/
  pending : List Instr
deriving DecidableEq, Repr

/-- The reasons for which the part stops: none. Every step of the spec leads to a next state. -/
inductive Fault
deriving DecidableEq, Repr

/-- The reasons for which a command has no meaning here. -/
inductive Refusal where
  /-- Raised by an arm of `exec` alone, for a command with no meaning yet; safe. No arm raises it now. -/
  | notModelled (mnemonic : String)
deriving DecidableEq, Repr

/-- What a command's meaning answers. -/
abbrev Result := Host.Outcome State Fault Refusal

/-! ### Values after power-on reset -/

/-- R18. -/
def Slot.reset : Slot := ⟨0#8, none⟩

/-- R41. The sampled level is high, so deasserted, until the reset is released (notes/assumptions/5.md). -/
def Budget.reset : Budget :=
  { normal := 0, derated := 0, effective := 0, granted := 0, releasing := 0, derateLevel := true,
    deratePolarity := .activeLow, derateOn := false }

/-- The defaults of R45. -/
def ChannelConfig.reset : ChannelConfig :=
  { enable := true, start := 256, rampStep := 64, downStep := 128, deadband := 2, averaging := 1, rating := 200,
    ceiling := 2048, guard := 40, gain := 1024 }

/-- R67. -/
def ChannelRecord.reset : ChannelRecord :=
  { state := .idle, drive := 0, target := 0, holder := none, hold := false, lastBelow := 0, lo := 0, hi := 0,
    voteDir := .none, voteCount := 0, confirm := 2, run := 0, lastAdjust := .none, strikes := 0, settled := false,
    measured := 0, tripOwner := none, tripValue := 0, config := ChannelConfig.reset }

/-- R98. -/
def Window.reset : Window := ⟨0, 0⟩

/-- R98. No conversion is in progress, so the cycle counts as complete. -/
def Scanner.reset : Scanner :=
  { period := 4, pendingPeriod := none, windows := Vector.replicate 12 Window.reset, railLimit := 0, railGain := 1024,
    railValue := 0, railFlag := false, counter := 0#16, position := 13 }

/-- R100. -/
def Group.reset : Group := ⟨0#10, 0#12, .follow, .idle⟩

/-- R114. The sampled FLT levels are high, so deasserted, until the reset is released (notes/assumptions/5.md). -/
def TripUnit.reset : TripUnit :=
  { groups := Vector.replicate 4 Group.reset, inputs := 0#10, fltLevel := Vector.replicate 4 true,
    fltPolarity := Vector.replicate 4 .activeLow, fault := false }

/-- R115 and R116. No port has the supervisor flag, and every floor is 2, until the straps are sampled at the release
(notes/assumptions/5.md). -/
def Session.reset : Session :=
  { state := .closed, current := none, next := none, remaining := 0, warned := false, floor := 2, quota := 6,
    soft := false, supervisor := false }

/-- R140. -/
def NoticeQueue.reset : NoticeQueue := ⟨[], 0#16, 0, false⟩

/-- R141. -/
def PortState.reset : PortState := ⟨none, none, false, false, false, none, []⟩

/-- R170. -/
def Modulator.reset : Modulator := ⟨0, 0, 0⟩

/-- The same value for every port. -/
def PerPort.const {α : Type} (x : α) : PerPort α := ⟨x, x, x, x⟩

/-- The state that power-on reset leaves while it is still held: RESET_RELEASE, which samples the straps and the pins,
is the step that comes next (R116, notes/assumptions/4.md). -/
def State.reset : State :=
  { slots := Vector.replicate 24 Slot.reset
    stamp := 0
    counts := PerPort.const 0
    budget := Budget.reset
    releases := Vector.replicate 12 0
    channels := Vector.replicate 12 ChannelRecord.reset
    scan := Scanner.reset
    trip := TripUnit.reset
    sessions := PerPort.const Session.reset
    notices := PerPort.const NoticeQueue.reset
    ports := PerPort.const PortState.reset
    pointer := .D
    cause := .powerOn
    modulators := Vector.replicate 12 Modulator.reset
    frameSlot := 0
    resetHeld := true
    choice := 0
    pending := [] }

end Sys2Proof.Machine
end

