-- ==== Sys2Proof/Machine/Loop.lean ====
section
/-! DEFINITION. The channel loop: what each event of R49 does to one channel record (R50 to R86). The functions here are
about the record alone; the notices and the reports that an event calls for are answered beside the record and are
taken by the state's operations (Allocator.lean, TripUnit.lean, Scan.lean). -/

namespace Sys2Proof.Machine

/-- The settle states, in which the loop drives the channel under a grant (R44). -/
def LoopState.settling : LoopState → Bool
  | .ramp | .bisect | .track | .limited => true
  | .idle | .held | .releasing | .tripped => false

/-- The granted states (R44). -/
def LoopState.grantedState : LoopState → Bool
  | .ramp | .bisect | .track | .limited | .held => true
  | .idle | .releasing | .tripped => false

/-- The states in which the guard watches (R78). -/
def LoopState.guarded : LoopState → Bool
  | .ramp | .bisect | .track | .limited | .releasing => true
  | .idle | .held | .tripped => false

/-- Entering IDLE: drive level 0, target 0, holder absent, strike count 0 (R42, R70, R71, R74, R76, R78). -/
def ChannelRecord.toIdle (r : ChannelRecord) : ChannelRecord :=
  { r with state := .idle, drive := 0, target := 0, holder := none, strikes := 0 }

/-- No votes: direction none, count 0. -/
def ChannelRecord.clearVotes (r : ChannelRecord) : ChannelRecord := { r with voteDir := .none, voteCount := 0 }

/-- Entering TRACK: votes cleared; L, the run, the last adjustment and the settled flag are kept (R55, R56, R61, R64). -/
def ChannelRecord.toTrack (r : ChannelRecord) : ChannelRecord := { r.clearVotes with state := .track }

/-- The settle working values, strike count and settled flag that GRANT and UNHOLD set (R51, R72). -/
def ChannelRecord.freshSettle (r : ChannelRecord) : ChannelRecord :=
  { r with lastBelow := 0, lo := 0, hi := 0, voteDir := .none, voteCount := 0, confirm := 2, run := 0,
           lastAdjust := .none, strikes := 0, settled := false }

/-- GRANT (R51, R52). -/
def ChannelRecord.grant (r : ChannelRecord) (h : Handle) (amount : Nat) : ChannelRecord :=
  let g := { r.freshSettle with holder := some h, target := amount }
  if r.hold then { g with state := .held, drive := 0 }
  else { g with state := .ramp, drive := min r.config.start r.config.ceiling }

/-- RELEASE with a release amount (R71, R74). RELEASE reaches a loop only in a granted state (R75). -/
def ChannelRecord.release (r : ChannelRecord) (amount : Nat) : ChannelRecord :=
  match r.state with
  | .held => r.toIdle
  | .ramp | .bisect | .track | .limited =>
      if 0 < r.drive then { r with state := .releasing, holder := none, target := amount } else r.toIdle
  | .idle | .releasing | .tripped => r

/-- Whether RELEASE makes the loop report IDLE REACHED at once (R71, R74). -/
def ChannelRecord.releaseReachesIdle (r : ChannelRecord) : Bool :=
  match r.state with
  | .held => true
  | .ramp | .bisect | .track | .limited => decide (r.drive = 0)
  | .idle | .releasing | .tripped => false

/-- TARGET (R63). -/
def ChannelRecord.retarget (r : ChannelRecord) (amount : Nat) : ChannelRecord :=
  match r.state with
  | .track => { r.clearVotes with target := amount }
  | .ramp | .bisect | .limited | .held => { r with target := amount }
  | .idle | .releasing | .tripped => r

/-- HOLD (R69, R70). -/
def ChannelRecord.takeHold (r : ChannelRecord) : ChannelRecord :=
  match r.state with
  | .ramp | .bisect | .track | .limited => { r with hold := true, state := .held, drive := 0, strikes := 0 }
  | .releasing => { r.toIdle with hold := true }
  | .idle | .held | .tripped => { r with hold := true }

/-- UNHOLD (R72). -/
def ChannelRecord.takeUnhold (r : ChannelRecord) : ChannelRecord :=
  match r.state with
  | .held => { r.freshSettle with hold := false, state := .ramp, drive := min r.config.start r.config.ceiling }
  | .idle | .ramp | .bisect | .track | .limited | .releasing | .tripped => { r with hold := false }

/-- CEILING CHANGE (R64, R65). -/
def ChannelRecord.changeCeiling (r : ChannelRecord) (ceiling : Nat) : ChannelRecord :=
  let stored := { r with config := { r.config with ceiling := ceiling } }
  if ceiling < r.drive then
    let clipped := { stored with drive := ceiling }
    if r.state.settling then clipped.toTrack else clipped
  else
    match r.state with
    | .bisect => if ceiling < r.config.ceiling ∧ ceiling < r.hi then stored.toTrack else stored
    | .limited => if r.config.ceiling < ceiling then stored.toTrack else stored
    | .idle | .ramp | .track | .held | .releasing | .tripped => stored

/-- CLEAR TRIP, accepted (R83): the trip value and the hold attribute are kept. -/
def ChannelRecord.clearTrip (r : ChannelRecord) : ChannelRecord := { r.toIdle with tripOwner := none }

/-- RESTART (R86): the last measured value, the hold attribute and the configuration are kept. -/
def ChannelRecord.restart (r : ChannelRecord) : ChannelRecord :=
  { r.toIdle.freshSettle with tripOwner := none, tripValue := 0 }

/-! ### Measurements (R53) -/

/-- What a measurement makes the loop report or notify. -/
inductive LoopReport where
  | none
  /-- A SETTLED notice, its value the drive level (R62). -/
  | settled
  /-- A LIMITED notice, its value the measurement (R62). -/
  | limited
  /-- IDLE REACHED (R76). -/
  | idleReached
  /-- The guard trips the channel (R79). -/
  | tripped
deriving DecidableEq, Repr

/-- The strike count that a measurement leads to, before the trip (R78). -/
def ChannelRecord.strikesAfter (r : ChannelRecord) (m : Nat) : Nat :=
  if r.target + r.config.guard < m then r.strikes + 1 else 0

/-- R55 and R56: the drive level from the interval, and TRACK when no level is left between its ends. -/
def ChannelRecord.halve (r : ChannelRecord) : ChannelRecord :=
  if r.hi - r.lo ≤ 1 then { r.toTrack with drive := r.hi }
  else { r with state := .bisect, drive := (r.lo + r.hi) / 2 }

/-- RAMP's step (R54). -/
def ChannelRecord.rampStep (r : ChannelRecord) (m : Nat) : ChannelRecord × LoopReport :=
  if r.target ≤ m then ({ r with lo := r.lastBelow, hi := r.drive }.halve, .none)
  else if r.config.ceiling ≤ r.drive then ({ r with state := .limited }, .limited)
  else ({ r with lastBelow := r.drive, drive := min (r.drive + r.config.rampStep) r.config.ceiling }, .none)

/-- BISECT's step (R56). -/
def ChannelRecord.bisectStep (r : ChannelRecord) (m : Nat) : ChannelRecord × LoopReport :=
  if r.target ≤ m then ({ r with hi := r.drive }.halve, .none) else ({ r with lo := r.drive }.halve, .none)

/-- L, the run and the last adjustment after an adjustment in a direction (R59). -/
def ChannelRecord.adapt (r : ChannelRecord) (d : Direction) : ChannelRecord :=
  if r.lastAdjust = .none then { r with run := 1, lastAdjust := d }
  else if r.lastAdjust = d then
    if r.run + 1 < 4 then { r with run := r.run + 1, lastAdjust := d }
    else { r with confirm := max 2 (r.confirm / 2), run := 0, lastAdjust := d }
  else { r with confirm := min 32 (2 * r.confirm), run := 0, lastAdjust := d }

/-- An adjustment, its votes already cleared (R59, R60). -/
def ChannelRecord.adjust (r : ChannelRecord) (d : Direction) : ChannelRecord × LoopReport :=
  match d with
  | .up =>
      if r.config.ceiling ≤ r.drive then ({ r with state := .limited }, .limited)
      else ({ r.adapt .up with drive := r.drive + 1 }, .none)
  | .down => ({ r.adapt .down with drive := r.drive - 1 }, .none)
  | .none => (r, .none)

/-- The vote count that a vote leads to (R58). -/
def ChannelRecord.votesAfter (r : ChannelRecord) (d : Direction) : Nat :=
  if r.voteDir = d ∧ 0 < r.voteCount then r.voteCount + 1 else 1

/-- A vote (R58). -/
def ChannelRecord.vote (r : ChannelRecord) (d : Direction) : ChannelRecord × LoopReport :=
  if r.confirm ≤ r.votesAfter d then r.clearVotes.adjust d
  else ({ r with voteDir := d, voteCount := r.votesAfter d }, .none)

/-- TRACK's step (R57 to R60). The subtraction is of naturals, so the lower end of the band is never below 0. -/
def ChannelRecord.trackStep (r : ChannelRecord) (m : Nat) : ChannelRecord × LoopReport :=
  if r.target + r.config.deadband < m then r.vote .down
  else if m < r.target - r.config.deadband then r.vote .up
  else if r.settled then (r.clearVotes, .none)
  else ({ r.clearVotes with settled := true }, .settled)

/-- LIMITED's step (R61). -/
def ChannelRecord.limitedStep (r : ChannelRecord) (m : Nat) : ChannelRecord × LoopReport :=
  if r.target - r.config.deadband ≤ m then (r.toTrack, .none) else (r, .none)

/-- RELEASING's step (R76). -/
def ChannelRecord.windDownStep (r : ChannelRecord) : ChannelRecord × LoopReport :=
  if r.config.downStep < r.drive then ({ r with drive := r.drive - r.config.downStep }, .none)
  else (r.toIdle, .idleReached)

/-- The step of the channel's state, after the guard (R53). -/
def ChannelRecord.stateStep (r : ChannelRecord) (m : Nat) : ChannelRecord × LoopReport :=
  match r.state with
  | .ramp => r.rampStep m
  | .bisect => r.bisectStep m
  | .track => r.trackStep m
  | .limited => r.limitedStep m
  | .releasing => r.windDownStep
  | .idle | .held | .tripped => (r, .none)

/-- R79, steps 1, 2 and 4, and the trip owner that step 3 gives. -/
def ChannelRecord.trip (r : ChannelRecord) (m : Nat) (owner : Option Port) : ChannelRecord :=
  { r with state := .tripped, drive := 0, tripValue := m,
           tripOwner := if r.state = .releasing then none else owner,
           strikes := 0, target := 0, holder := none }

/-- R53: the last measured value, then the guard (R78), then the state's own step. `owner` is the port of the claim that
the holder names. -/
def ChannelRecord.measure (r : ChannelRecord) (m : Nat) (owner : Option Port) : ChannelRecord × LoopReport :=
  let seen := { r with measured := m }
  if r.state.guarded then
    if 3 ≤ r.strikesAfter m then (seen.trip m owner, .tripped)
    else { seen with strikes := r.strikesAfter m }.stateStep m
  else (seen, .none)

end Sys2Proof.Machine
end

