-- ==== Sys2Proof/Config.lean ====
section
/-! DEFINITION. What the spec leaves open, as constants with no body (notes/assumptions/2.md and 3.md): a statement about
them holds for every value they may have. Each is applied to State's choice counter, so that two uses may differ. -/

namespace Sys2Proof

/-- FREE VALUE. R81 and R112: the trip unit's taking of a rise of TRIPANY and the allocator's taking of the TRIPPED
report that comes with it "may be taken in either order". True: the trip unit takes the rise first. -/
opaque Config.tripanyFirst : Nat → Bool

/-- FREE VALUE. R103: SET PINS takes the change of each FLT pin as an input event of its own, and states no order among
the pins. The pins whose asserted state changes are taken in ascending order of this key, so every order is a value of
it. -/
opaque Config.pinKey : Nat → FltPin → Nat

end Sys2Proof
end

