-- ==== Sys2Proof/Machine/Ops.lean ====
section
/-! DEFINITION. The named operations over the state's tables, and the small ones that every block shares: responses
(R150) and notices (R133 to R138). -/

namespace Sys2Proof.Machine

/-! ### Per-port tables -/

/-- The value at a port. -/
def PerPort.get {α : Type} (t : PerPort α) : Port → α
  | .A => t.a
  | .B => t.b
  | .C => t.c
  | .D => t.d

/-- The table with one port's value replaced. -/
def PerPort.set {α : Type} (t : PerPort α) (p : Port) (x : α) : PerPort α :=
  match p with
  | .A => { t with a := x }
  | .B => { t with b := x }
  | .C => { t with c := x }
  | .D => { t with d := x }

/-- The four ports in order. -/
def allPorts : List Port := [.A, .B, .C, .D]

/-- The twelve channels in ascending order. -/
def allChannels : List Channel := List.finRange 12

/-- The twenty-four slots in ascending order. -/
def allSlots : List (Fin 24) := List.finRange 24

/-! ### Reading and replacing one entry of a table -/

/-- A slot of the claim table. -/
def State.slot (s : State) (i : Fin 24) : Slot := s.slots[i]

/-- The record of a slot. -/
def State.record (s : State) (i : Fin 24) : Option Claim := (s.slot i).record

/-- A channel record. -/
def State.channel (s : State) (c : Channel) : ChannelRecord := s.channels[c]

/-- A channel's release amount (R26). -/
def State.releaseOf (s : State) (c : Channel) : Nat := s.releases[c]

/-- A trip group. -/
def State.group (s : State) (g : Fin 4) : Group := s.trip.groups[g]

/-- A port's session record. -/
def State.session (s : State) (p : Port) : Session := s.sessions.get p

/-- A port's notice queue. -/
def State.noticesOf (s : State) (p : Port) : NoticeQueue := s.notices.get p

/-- A port's own state. -/
def State.port (s : State) (p : Port) : PortState := s.ports.get p

/-- A port's count of claim records (R5). -/
def State.count (s : State) (p : Port) : Nat := s.counts.get p

def State.setSlot (s : State) (i : Fin 24) (x : Slot) : State := { s with slots := s.slots.set i x }

def State.setChannel (s : State) (c : Channel) (x : ChannelRecord) : State :=
  { s with channels := s.channels.set c x }

def State.setRelease (s : State) (c : Channel) (n : Nat) : State := { s with releases := s.releases.set c n }

def State.setSession (s : State) (p : Port) (x : Session) : State := { s with sessions := s.sessions.set p x }

def State.setNotices (s : State) (p : Port) (x : NoticeQueue) : State := { s with notices := s.notices.set p x }

def State.setPort (s : State) (p : Port) (x : PortState) : State := { s with ports := s.ports.set p x }

def State.setCount (s : State) (p : Port) (n : Nat) : State := { s with counts := s.counts.set p n }

def State.setBudget (s : State) (b : Budget) : State := { s with budget := b }

def State.setScan (s : State) (x : Scanner) : State := { s with scan := x }

def State.setTrip (s : State) (x : TripUnit) : State := { s with trip := x }

/-- Whether the port's session is OPEN. -/
def State.isOpen (s : State) (p : Port) : Bool := decide ((s.session p).state = .opened)

/-! ### The response slot (R150) -/

/-- R150: a response replaces what the slot holds, and sets OVERWRITTEN when that had not been fetched. -/
def PortState.write (x : PortState) (r : Response) : PortState :=
  { x with response := some r, overwritten := x.overwritten || x.response.isSome }

def State.writeResponse (s : State) (p : Port) (r : Response) : State := s.setPort p ((s.port p).write r)

/-! ### Notices (R131 to R138) -/

/-- The code of a kind (R165). -/
def Kind.code : Kind → Nat
  | .granted => 1
  | .settled => 2
  | .limited => 3
  | .shed => 4
  | .revoked => 5
  | .held => 6
  | .resumed => 7
  | .tripped => 8
  | .budget => 9
  | .leaseWarn => 10
  | .overflow => 11

/-- The mask of a set that holds one kind (R165). -/
def Kind.mask (k : Kind) : BitVec 16 := 1#16 <<< k.code

/-- The condition under which ATTN is asserted (R138). -/
def NoticeQueue.waiting (q : NoticeQueue) : Bool := !q.queue.isEmpty || decide (0 < q.lostCount)

/-- R138: the notice unit forms the line in every action that changes the queue or the summary. -/
def NoticeQueue.formAttn (q : NoticeQueue) : NoticeQueue := { q with attn := q.waiting }

/-- R134 and R135: a notice joins a queue of fewer than 8 records, and is lost to the summary otherwise. -/
def NoticeQueue.put (q : NoticeQueue) (n : Notice) : NoticeQueue :=
  if q.queue.length < 8 then
    { q with queue := q.queue ++ [n] }.formAttn
  else
    { q with lostKinds := q.lostKinds ||| n.kind.mask, lostCount := min 255 (q.lostCount + 1) }.formAttn

/-- R133: a notice is made only for a port whose session is OPEN. -/
def State.notify (s : State) (p : Port) (n : Notice) : State :=
  if s.isOpen p then s.setNotices p ((s.noticesOf p).put n) else s

/-- A notice about a claim or a channel, stamped with the scan cycle counter (R97, R132). -/
def State.claimNotice (s : State) (k : Kind) (c : Channel) (h : Option Handle) (v : Option Nat) : Notice :=
  { kind := k, stamp := s.scan.counter, channel := some c, handle := h, value := v, derate := none,
    kindsLost := 0#16, lostCount := 0 }

/-- A BUDGET notice (R24, R132). -/
def State.budgetNotice (s : State) : Notice :=
  { kind := .budget, stamp := s.scan.counter, channel := none, handle := none, value := some s.budget.effective,
    derate := some s.budget.derateOn, kindsLost := 0#16, lostCount := 0 }

/-- A LEASE_WARN notice (R120, R132). -/
def State.leaseWarnNotice (s : State) (remaining : Nat) : Notice :=
  { kind := .leaseWarn, stamp := s.scan.counter, channel := none, handle := none, value := some remaining,
    derate := none, kindsLost := 0#16, lostCount := 0 }

/-- The OVERFLOW record formed from a summary (R136). -/
def State.overflowNotice (s : State) (q : NoticeQueue) : Notice :=
  { kind := .overflow, stamp := s.scan.counter, channel := none, handle := none, value := none, derate := none,
    kindsLost := q.lostKinds, lostCount := q.lostCount }

/-! ### Handles -/

/-- The handle of the record in a slot (R2). -/
def State.handleAt (s : State) (i : Fin 24) : Handle := ⟨(s.slot i).gen, i⟩

/-- The live record that a handle names: test 1 of R3. -/
def State.resolve (s : State) (h : Handle) : Option Claim :=
  if (s.slot h.slot).gen = h.gen then s.record h.slot else none

/-- The port of the claim that a channel's holder names (R42). -/
def State.holderPort (s : State) (c : Channel) : Option Port :=
  (s.channel c).holder.bind fun h => (s.resolve h).map Claim.port

/-- A loop's notice for the holder's port (R62, R85). -/
def State.notifyHolder (s : State) (k : Kind) (c : Channel) (v : Option Nat) : State :=
  match s.holderPort c with
  | some p => s.notify p (s.claimNotice k c (s.channel c).holder v)
  | none => s

end Sys2Proof.Machine
end

