-- ==== Sys2Proof/Machine/Allocator.lean ====
section
/-! DEFINITION. The allocator's shared operations: freeing a record (R14), the messages to the loops and their reports
(R28, R36 to R38), the wait queue (R10), the allocation pass (R30, R31), shedding (R33, R34), and a change of the
effective budget (R21, R22). -/

namespace Sys2Proof.Machine

/-! ### Messages and reports -/

/-- IDLE REACHED (R36). -/
def State.idleReached (s : State) (c : Channel) : State :=
  { s with budget := { s.budget with releasing := s.budget.releasing - s.releaseOf c } }.setRelease c 0

/-- A channel's release amount is set, and the releasing sum rises by it (R26). -/
def State.addRelease (s : State) (c : Channel) (amount : Nat) : State :=
  { s with budget := { s.budget with releasing := s.budget.releasing + amount } }.setRelease c amount

/-- RELEASE to a channel loop with its release amount, for any reason (R28, R75): an IDLE REACHED that the loop makes in
response is taken at once. -/
def State.sendRelease (s : State) (c : Channel) (amount : Nat) : State :=
  let t := (s.addRelease c amount).setChannel c ((s.channel c).release amount)
  if (s.channel c).releaseReachesIdle then t.idleReached c else t

/-- The granted sum falls (R25). -/
def State.lowerGranted (s : State) (amount : Nat) : State :=
  { s with budget := { s.budget with granted := s.budget.granted - amount } }

/-- The granted sum rises (R25). -/
def State.raiseGranted (s : State) (amount : Nat) : State :=
  { s with budget := { s.budget with granted := s.budget.granted + amount } }

/-- An occupied slot is freed: its generation rises by one, wrapping, and the port's count falls by one (R2, R5). -/
def State.freeSlot (s : State) (i : Fin 24) (r : Claim) : State :=
  (s.setSlot i ⟨(s.slot i).gen + 1#8, none⟩).setCount r.port (s.count r.port - 1)

/-- The record in a slot is freed as RELEASE frees it (R14): a GRANTED record's channel receives RELEASE, the granted sum
falls and the releasing sum rises by its amount. -/
def State.dropRecord (s : State) (i : Fin 24) : State :=
  match s.record i with
  | none => s
  | some r =>
    match r.state with
    | .pending => s.freeSlot i r
    | .granted => ((s.freeSlot i r).lowerGranted r.amount).sendRelease r.channel r.amount

/-! ### The wait queue (R10, R11) -/

/-- Wait order between two records: ascending class, and within one class ascending stamp (R10). -/
def Claim.notBehind (a b : Claim) : Bool := decide (a.cls < b.cls ∨ (a.cls = b.cls ∧ a.stamp ≤ b.stamp))

/-- Whether the first slot's record stands before the second's in wait order; a free slot is never compared. -/
def State.slotNotBehind (s : State) (i j : Fin 24) : Bool :=
  match s.record i, s.record j with
  | some a, some b => a.notBehind b
  | _, _ => true

/-- Whether a slot's record is in a claim state. -/
def State.recordIs (s : State) (st : ClaimState) (i : Fin 24) : Bool :=
  match s.record i with
  | some r => decide (r.state = st)
  | none => false

/-- A slot put into a list of slots that stands in wait order. -/
def State.insertSlot (s : State) (i : Fin 24) : List (Fin 24) → List (Fin 24)
  | [] => [i]
  | j :: rest => if s.slotNotBehind i j then i :: j :: rest else j :: s.insertSlot i rest

/-- Slots put in wait order. -/
def State.inWaitOrder (s : State) : List (Fin 24) → List (Fin 24)
  | [] => []
  | i :: rest => s.insertSlot i (s.inWaitOrder rest)

/-- The wait queue: the slots of the PENDING records in wait order (R10). -/
def State.waitQueue (s : State) : List (Fin 24) := s.inWaitOrder (allSlots.filter (s.recordIs .pending))

/-- The position of a record in the wait queue: the PENDING records ahead of it, plus one (R11). -/
def State.position (s : State) (r : Claim) : Nat :=
  (allSlots.filter fun i =>
    match s.record i with
    | some q => decide (q.state = .pending ∧ (q.cls < r.cls ∨ (q.cls = r.cls ∧ q.stamp < r.stamp)))
    | none => false).length + 1

/-! ### The allocation pass (R29 to R31) -/

/-- R27. -/
def State.headroom (s : State) : Int :=
  (s.budget.effective : Int) - (s.budget.granted : Int) - (s.budget.releasing : Int)

/-- Whether a record is GRANTED on a channel. -/
def State.grantedOn (s : State) (c : Channel) : Bool :=
  allSlots.any fun i =>
    match s.record i with
    | some r => decide (r.state = .granted ∧ r.channel = c)
    | none => false

/-- A free channel: IDLE with no GRANTED record on it (R29). -/
def State.free (s : State) (c : Channel) : Bool := decide ((s.channel c).state = .idle) && !s.grantedOn c

/-- R29. -/
def State.eligible (s : State) (r : Claim) : Bool := s.free r.channel && decide (r.amount ≤ s.budget.effective)

/-- The pass grants the PENDING record of a slot (R31). -/
def State.grantSlot (s : State) (i : Fin 24) (r : Claim) : State :=
  let s1 := (s.setSlot i ⟨(s.slot i).gen, some { r with state := .granted }⟩).raiseGranted r.amount
  let s2 := s1.setChannel r.channel ((s1.channel r.channel).grant (s1.handleAt i) r.amount)
  s2.notify r.port (s2.claimNotice .granted r.channel (some (s2.handleAt i)) (some r.amount))

/-- R30: the walk of the queue, which stops at the first eligible record that exceeds the headroom. -/
def State.walkQueue (s : State) : List (Fin 24) → State
  | [] => s
  | i :: rest =>
    match s.record i with
    | some r =>
      if r.state = .pending ∧ s.eligible r then
        if (r.amount : Int) ≤ s.headroom then (s.grantSlot i r).walkQueue rest else s
      else s.walkQueue rest
    | none => s.walkQueue rest

/-- The allocation pass (R30). -/
def State.allocationPass (s : State) : State := s.walkQueue s.waitQueue

/-! ### Shedding (R33, R34) -/

/-- The GRANTED records in the order in which they are shed: least urgent class first, and within a class the newest
stamp first, which is wait order reversed (R33). -/
def State.shedOrder (s : State) : List (Fin 24) := (s.inWaitOrder (allSlots.filter (s.recordIs .granted))).reverse

/-- The GRANTED record of a slot is shed (R34). -/
def State.shedRecord (s : State) (i : Fin 24) (r : Claim) : State :=
  let s1 := s.setSlot i ⟨(s.slot i).gen, some { r with state := .pending, shed := min 255 (r.shed + 1) }⟩
  let s2 := (s1.lowerGranted r.amount).sendRelease r.channel r.amount
  s2.notify r.port (s2.claimNotice .shed r.channel (some (s2.handleAt i)) none)

/-- One slot of the shed order is shed. -/
def State.shedSlot (s : State) (i : Fin 24) : State :=
  match s.record i with
  | some r => if r.state = .granted then s.shedRecord i r else s
  | none => s

/-- R33: records are shed in order until the granted sum is at or below the effective budget. -/
def State.shedWalk (s : State) : List (Fin 24) → State
  | [] => s
  | i :: rest => if s.budget.effective < s.budget.granted then (s.shedSlot i).shedWalk rest else s

/-- Shedding (R33). -/
def State.shed (s : State) : State := s.shedWalk s.shedOrder

/-! ### A change of the budget (R21 to R24) -/

/-- The effective budget that the budgets and the DERATE state form (R23). -/
def Budget.formed (b : Budget) : Nat := if b.derateOn then min b.normal b.derated else b.normal

/-- A BUDGET notice for every port whose session is OPEN (R24). -/
def State.notifyBudget (s : State) : State := allPorts.foldl (fun t p => t.notify p t.budgetNotice) s

/-- The action that follows a change of the budgets or of the DERATE state (R21, R22): the effective budget is formed
anew, granted claims are shed where the action may shed, BUDGET notices are made when the effective budget has changed,
and an allocation pass runs. -/
def State.reformBudget (s : State) (mayShed : Bool) : State :=
  let s1 := { s with budget := { s.budget with effective := s.budget.formed } }
  let s2 := if mayShed then s1.shed else s1
  let s3 := if s1.budget.effective = s.budget.effective then s2 else s2.notifyBudget
  s3.allocationPass

/-- A DERATE event (R22): the asserted state changes to `on`. Only an assertion sheds. -/
def State.derateEvent (s : State) (on : Bool) : State :=
  { s with budget := { s.budget with derateOn := on } }.reformBudget on

/-! ### TRIPPED reports (R37, R38) -/

/-- The allocator takes a TRIPPED report that carries a handle (R37). -/
def State.tripReport (s : State) (c : Channel) (h : Handle) (m : Nat) : State :=
  match s.resolve h with
  | none => s.allocationPass
  | some r =>
    let s1 := s.freeSlot h.slot r
    let s2 := if r.state = .granted then s1.lowerGranted r.amount else s1
    (s2.notify r.port (s2.claimNotice .tripped c (some h) (some m))).allocationPass

/-- The allocator takes a TRIPPED report that carries no handle (R38). -/
def State.tripReportUnowned (s : State) (c : Channel) : State := (s.idleReached c).allocationPass

end Sys2Proof.Machine
end

