-- ==== Sys2Proof/Machine/TripUnit.lean ====
section
/-! DEFINITION. The trip unit's shared operations: inputs (R101), group states (R104), hold attributes (R106), FAULT
(R107), and an input event (R105). -/

namespace Sys2Proof.Machine

/-- The ten inputs (R101). -/
inductive TripInput where
  | flt (pin : FltPin)
  | rail
  | tripany
  | soft (p : Port)
deriving DecidableEq, Repr

/-- An input's number (R168). -/
def TripInput.number : TripInput → Nat
  | .flt pin => pin.val
  | .rail => 4
  | .tripany => 5
  | .soft .A => 6
  | .soft .B => 7
  | .soft .C => 8
  | .soft .D => 9

/-- The recorded inputs with one input's state replaced. -/
def setInput (inputs : BitVec 10) (i : TripInput) (v : Bool) : BitVec 10 :=
  if v then inputs ||| (1#10 <<< i.number) else inputs &&& ~~~(1#10 <<< i.number)

/-- The recorded state of an input (R101). -/
def State.input (s : State) (i : TripInput) : Bool := s.trip.inputs.getLsbD i.number

/-- Whether a pin at a level is asserted under a polarity (00_scope, Signal levels; R101). -/
def assertedAt (polarity : Polarity) (level : Bool) : Bool :=
  match polarity with
  | .activeLow => !level
  | .activeHigh => level

/-- A group's input condition (R104). -/
def Group.condition (g : Group) (inputs : BitVec 10) : Bool := decide (g.inputs &&& inputs ≠ 0#10)

/-- A group's state settled against the inputs (R104, R108). -/
def Group.settle (g : Group) (inputs : BitVec 10) : Group :=
  if g.condition inputs then { g with state := .active }
  else
    match g.state, g.mode with
    | .active, .latch => { g with state := .latched }
    | .active, .follow => { g with state := .idle }
    | .idle, _ => g
    | .latched, _ => g

/-- A group's state from its input condition alone (R113). -/
def Group.restart (g : Group) (inputs : BitVec 10) : Group :=
  { g with state := if g.condition inputs then .active else .idle }

/-- ACTIVE or LATCHED (R106, R107). -/
def Group.holding (g : Group) : Bool := decide (g.state ≠ .idle)

/-- Whether a group holds a channel (R106). -/
def Group.holds (g : Group) (c : Channel) : Bool := g.holding && g.targets.getLsbD c.val

/-- The four groups in ascending order. -/
def allGroups : List (Fin 4) := List.finRange 4

/-- The hold attribute that the groups give a channel (R106). -/
def holdFormed (groups : Vector Group 4) (c : Channel) : Bool := allGroups.any fun g => groups[g].holds c

/-- FAULT as the groups give it (R107). -/
def faultFormed (groups : Vector Group 4) : Bool := allGroups.any fun g => groups[g].holding

/-- The group that a HOLD names: the lowest-numbered one that holds the channel now and did not before the action (R106).
One always does when the attribute rises. -/
def raisingGroup (before after : Vector Group 4) (c : Channel) : Fin 4 :=
  (allGroups.find? fun g => after[g].holds c && !before[g].holds c).getD 0

/-- HOLD, naming a group (R69, R70): a HELD notice in the settle states, and IDLE REACHED in RELEASING. -/
def State.sendHold (s : State) (c : Channel) (g : Fin 4) : State :=
  let r := s.channel c
  let t := s.setChannel c r.takeHold
  if r.state.settling then t.notifyHolder .held c (some g.val)
  else if r.state = .releasing then t.idleReached c
  else t

/-- UNHOLD (R72): a RESUMED notice when the channel was HELD. -/
def State.sendUnhold (s : State) (c : Channel) : State :=
  let r := s.channel c
  let t := s.setChannel c r.takeUnhold
  if r.state = .held then t.notifyHolder .resumed c none else t

/-- One channel's hold attribute is formed, and HOLD or UNHOLD sent where it changes (R105, R106). -/
def State.formHold (s : State) (before after : Vector Group 4) (c : Channel) : State :=
  if holdFormed after c = (s.channel c).hold then s
  else if holdFormed after c then s.sendHold c (raisingGroup before after c)
  else s.sendUnhold c

/-- Whether forming the hold attributes ends a wind-down, and so reports IDLE REACHED (R70). -/
def State.holdEndsWindDown (s : State) (after : Vector Group 4) : Bool :=
  allChannels.any fun c =>
    holdFormed after c && !(s.channel c).hold && decide ((s.channel c).state = .releasing)

/-- The groups take new records or states: every hold attribute is formed in ascending channel order, and FAULT is formed
(R105 steps 3 and 4). No pass runs here. -/
def State.putGroups (s : State) (after : Vector Group 4) : State :=
  let before := s.trip.groups
  let s1 := s.setTrip { s.trip with groups := after, fault := faultFormed after }
  allChannels.foldl (fun t c => t.formHold before after c) s1

/-- A trip-unit action, ended by one allocation pass where a HOLD has ended a wind-down (R105). -/
def State.tripAction (s : State) (after : Vector Group 4) : State :=
  if s.holdEndsWindDown after then (s.putGroups after).allocationPass else s.putGroups after

/-- An input's new state is recorded (R105 step 1). -/
def State.recordInput (s : State) (i : TripInput) (v : Bool) : State :=
  s.setTrip { s.trip with inputs := setInput s.trip.inputs i v }

/-- The groups settled against the recorded inputs (R105 step 2). -/
def State.settledGroups (s : State) : Vector Group 4 := Vector.ofFn fun g => (s.group g).settle s.trip.inputs

/-- An input event, taken whole (R105). -/
def State.inputEvent (s : State) (i : TripInput) (v : Bool) : State :=
  let s1 := s.recordInput i v
  s1.tripAction s1.settledGroups

/-- An input event within SET PINS, which runs no pass of its own (R103). -/
def State.inputEventNoPass (s : State) (i : TripInput) (v : Bool) : State :=
  let s1 := s.recordInput i v
  s1.putGroups s1.settledGroups

/-- Whether an input event within SET PINS ends a wind-down (R103). -/
def State.inputEventEndsWindDown (s : State) (i : TripInput) (v : Bool) : Bool :=
  let s1 := s.recordInput i v
  s1.holdEndsWindDown s1.settledGroups

/-- Whether at least one channel is TRIPPED (R81). -/
def State.anyTripped (s : State) : Bool := allChannels.any fun c => decide ((s.channel c).state = .tripped)

/-- TRIPANY as the loops present it, taken as an input event where it changes (R81, R112). -/
def State.followTripany (s : State) : State :=
  if s.anyTripped = s.input .tripany then s else s.inputEvent .tripany s.anyTripped

/-- Whether a group watches TRIPANY. -/
def State.tripanyWatched (s : State) : Bool :=
  allGroups.any fun g => (s.group g).inputs.getLsbD TripInput.tripany.number

end Sys2Proof.Machine
end

