-- ==== Sys2Proof/Machine/Sessions.lean ====
section
/-! DEFINITION. The session table's shared operations: ending a session (R123), what becomes of the port's waiting
command (R125), and a tick of a lease (R119). -/

namespace Sys2Proof.Machine

/-- SESSION END at the allocator: every record of the port is freed, in ascending slot order, and one pass runs (R17). -/
def State.reclaim (s : State) (p : Port) : State :=
  (allSlots.foldl
    (fun t i =>
      match t.record i with
      | some r => if r.port = p then t.dropRecord i else t
      | none => t) s).allocationPass

/-- SESSION END at the trip unit: a set soft bit is cleared and its fall is taken as an input event (R111). -/
def State.clearSoft (s : State) (p : Port) : State :=
  if (s.session p).soft then
    (s.setSession p { s.session p with soft := false }).inputEvent (.soft p) false
  else s

/-- The port's notice queue and overflow summary are emptied and its ATTN line is released (R139). -/
def State.emptyNotices (s : State) (p : Port) : State := s.setNotices p NoticeQueue.reset

/-- The session record's ended values (R123 step 4). The quota, class floor and supervisor flag are kept. -/
def Session.ended (x : Session) (result : SessionState) : Session :=
  { x with state := result, current := none, next := none, remaining := 0, warned := false }

/-- The end of an OPEN session, with its result (R123). -/
def State.endSession (s : State) (p : Port) (result : SessionState) : State :=
  let t := ((s.reclaim p).clearSoft p).emptyNotices p
  t.setSession p ((t.session p).ended result)

/-- A command that waits as its port's session ends is discarded and answered LAPSED (R125). -/
def State.discardWaiting (s : State) (p : Port) : State :=
  match (s.port p).command with
  | none => s
  | some c => (s.setPort p { s.port p with command := none }).writeResponse p ⟨.lapsed, c.tag, c.opcode, []⟩

/-- The session ends by expiry, EVICT or another port's RESTART (R124, R127, R129). -/
def State.lapse (s : State) (p : Port) : State := (s.endSession p .lapsed).discardWaiting p

/-- The warning point of a lease (R120). -/
def Session.warningPoint (x : Session) : Nat := x.current.getD 0 / 2

/-- The lease warning: the flag is set and LEASE_WARN is made (R120). -/
def State.leaseWarning (s : State) (p : Port) : State :=
  (s.setSession p { s.session p with warned := true }).notify p (s.leaseWarnNotice (s.session p).remaining)

/-- A tick of an OPEN session (R119). -/
def State.tick (s : State) (p : Port) : State :=
  let left := (s.session p).remaining - 1
  let t := s.setSession p { s.session p with remaining := left }
  if left = 0 then t.lapse p
  else if left = (s.session p).warningPoint ∧ 0 < (s.session p).warningPoint ∧ (s.session p).warned = false then
    t.leaseWarning p
  else t

/-- Emptying the slots and clearing the flags of a port (R128). -/
def PortState.emptied (x : PortState) : PortState :=
  { x with command := none, response := none, collided := false, overwritten := false }

/-- PORT RESET as the port takes it (R128): the slots are emptied before the session ends. -/
def State.resetPort (s : State) (p : Port) : State :=
  let t := s.setPort p (s.port p).emptied
  match (t.session p).state with
  | .opened => t.endSession p .closed
  | .lapsed => (t.emptyNotices p).setSession p { t.session p with state := .closed }
  | .closed => t

end Sys2Proof.Machine
end

