-- ==== Sys2Proof/Machine/Executor.lean ====
section
/-! DEFINITION. The executor: which waiting command it takes (R151), its five checks (R152), and the writing of the
response (R150). -/

namespace Sys2Proof.Machine

/-- What an owning block answers: a status, and a payload. -/
structure Reply where
  status : Status
  payload : List Byte
deriving DecidableEq, Repr

/-- A refusal carries length 0 (R150, R152). -/
def Reply.refuse (st : Status) : Reply := ⟨st, []⟩

/-- OK with no payload. -/
def Reply.done : Reply := ⟨.ok, []⟩

/-- Which session states pass the command at check 3 (R117): OPEN and STATUS pass in every one. -/
inductive Gate where
  | always | openOnly
deriving DecidableEq, Repr

/-- The order in which the ports are looked at after the pointer (R151). -/
def roundFrom : Port → List Port
  | .A => [.B, .C, .D, .A]
  | .B => [.C, .D, .A, .B]
  | .C => [.D, .A, .B, .C]
  | .D => [.A, .B, .C, .D]

/-- The port whose waiting command the executor takes next, with that command (R151). -/
def State.nextWaiting (s : State) : Option (Port × Command) :=
  (roundFrom s.pointer).findSome? fun p => (s.port p).command.map fun c => (p, c)

/-- The executor takes the port's command: the pointer names the port and its slot is EMPTY (R151). -/
def State.takeFrom (s : State) (p : Port) : State :=
  { s.setPort p { s.port p with command := none } with pointer := p }

/-- Check 3: the session check (R117). None where it passes the command. -/
def sessionCheck (gate : Gate) (st : SessionState) : Option Status :=
  match gate, st with
  | .always, _ => none
  | .openOnly, .opened => none
  | .openOnly, .closed => some .noSession
  | .openOnly, .lapsed => some .lapsed

/-- Checks 2 to 5, in order (R152). -/
def State.carryOut {α : Type} (decode : List Byte → Option α) (gate : Gate) (supervisorOnly : Bool)
    (own : Port → α → State → State × Reply) (s : State) (p : Port) (payload : List Byte) : State × Reply :=
  match decode payload with
  | none => (s, .refuse .badOperand)
  | some a =>
    match sessionCheck gate (s.session p).state with
    | some st => (s, .refuse st)
    | none =>
      if supervisorOnly && !(s.session p).supervisor then (s, .refuse .notSupervisor) else own p a s

/-- The response to a command is written to its port's response slot (R150, R151). -/
def answer (p : Port) (c : Command) (out : State × Reply) : State :=
  out.1.writeResponse p ⟨out.2.status, c.tag, c.opcode, out.2.payload⟩

/-- The executor's step for the commands of one opcode: it takes the next waiting command, where that has the opcode, and
carries it out as one action (R151). In a state where it does not, the step does not arise, and nothing happens
(notes/assumptions/1.md). -/
def State.execute {α : Type} (opcode : Byte) (decode : List Byte → Option α) (gate : Gate) (supervisorOnly : Bool)
    (own : Port → α → State → State × Reply) (s : State) : State :=
  match s.nextWaiting with
  | none => s
  | some (p, c) =>
    if c.opcode = opcode then
      answer p c (State.carryOut decode gate supervisorOnly own (s.takeFrom p) p c.payload)
    else s

/-- The opcodes of the Command Reference chapter (R157 to R169). -/
def knownOpcodes : List Byte :=
  [0x01, 0x02, 0x03, 0x04, 0x05, 0x10, 0x11, 0x12, 0x13, 0x20, 0x21, 0x22, 0x30, 0x31, 0x40, 0x41, 0x42, 0x43, 0x44,
   0x45, 0x46, 0x47, 0x48, 0x49, 0x4A, 0x4B, 0x4C]

end Sys2Proof.Machine
end

