-- ==== Sys2Proof/Machine/Flags.lean ====
section
/-! DEFINITION. The codes and flags the part sends: status codes (R153), the port status byte (R154), and the codes of
R155, R157, R163 and R165. -/

namespace Sys2Proof.Machine

/-- R153. -/
def Status.code : Status → Byte
  | .ok => 0
  | .none => 1
  | .badFrame => 2
  | .unknown => 3
  | .badOperand => 4
  | .noSession => 5
  | .lapsed => 6
  | .notSupervisor => 7
  | .state => 8
  | .full => 9
  | .quota => 10
  | .duplicate => 11
  | .cls => 12
  | .disabled => 13
  | .overRating => 14
  | .tooLarge => 15
  | .stale => 16
  | .notOwner => 17
  | .short => 18
  | .channelBusy => 19
  | .stillHigh => 20
  | .stillActive => 21
  | .empty => 22

/-- R155. -/
def portCode : Port → Nat
  | .A => 0
  | .B => 1
  | .C => 2
  | .D => 3

/-- R154 and R157. -/
def SessionState.code : SessionState → Nat
  | .closed => 0
  | .opened => 1
  | .lapsed => 2

/-- R156. -/
def ResetCause.code : ResetCause → Nat
  | .powerOn => 0
  | .pin => 1
  | .restart => 2

/-- R157. -/
def GroupState.code : GroupState → Nat
  | .idle => 0
  | .active => 1
  | .latched => 2

/-- R163. -/
def LoopState.code : LoopState → Nat
  | .idle => 0
  | .ramp => 1
  | .bisect => 2
  | .track => 3
  | .limited => 4
  | .held => 5
  | .releasing => 6
  | .tripped => 7

/-- R163. -/
def Direction.code : Direction → Nat
  | .none => 0
  | .up => 1
  | .down => 2

/-- R161. -/
def ClaimState.code : ClaimState → Nat
  | .pending => 0
  | .granted => 1

/-- A bit as 0 or 1. -/
def bit (b : Bool) : Nat := if b then 1 else 0

/-- The handle as its 16-bit value, generation × 256 + slot (R2). -/
def Handle.code (h : Handle) : Nat := h.gen.toNat * 256 + h.slot.val

/-- The port status byte as the port forms it now (R143, R154). -/
def State.statusByte (s : State) (p : Port) : Byte :=
  BitVec.ofNat 8
    (128 * bit (s.port p).response.isSome + 64 * bit (s.noticesOf p).waiting
      + 16 * (s.session p).state.code + 8 * bit (s.port p).collided + 4 * bit (s.port p).overwritten
      + 2 * bit (s.session p).supervisor)

/-- COLLIDED in a port status byte (R154). -/
def showsCollided (b : Byte) : Bool := b.getLsbD 3

/-- OVERWRITTEN in a port status byte (R154). -/
def showsOverwritten (b : Byte) : Bool := b.getLsbD 2

end Sys2Proof.Machine
end

