-- ==== Sys2Proof/Machine/Operands.lean ====
section
/-! DEFINITION. Operands and response fields (R155): multi-byte fields most significant byte first, and, for each
payload of R157 to R169, its decoder. A decoder answers none where check 2 of R152 refuses the command BAD_OPERAND: for
a payload of another length, and for a field outside its range or codes. -/

namespace Sys2Proof.Machine

/-- Two bytes as a number, most significant first. -/
def be16 (hi lo : Byte) : Nat := hi.toNat * 256 + lo.toNat

/-- A number as one byte. -/
def byte1 (n : Nat) : List Byte := [BitVec.ofNat 8 n]

/-- A number as two bytes, most significant first. -/
def byte2 (n : Nat) : List Byte := [BitVec.ofNat 8 (n / 256), BitVec.ofNat 8 n]

/-- A number as four bytes, most significant first. -/
def byte4 (n : Nat) : List Byte := byte2 (n / 65536) ++ byte2 n

/-- A signed number as two bytes of two's complement (R162). -/
def signed2 (i : Int) : List Byte := byte2 (BitVec.ofInt 16 i).toNat

/-- A field of one byte that may be absent: 0xFF when it is (R155). -/
def optional1 (o : Option Nat) : List Byte := byte1 (o.getD 0xFF)

/-- A field of two bytes that may be absent: 0xFFFF when it is (R155). -/
def optional2 (o : Option Nat) : List Byte := byte2 (o.getD 0xFFFF)

/-! ### Fields -/

/-- A number that must lie in a range. -/
def within (lo hi n : Nat) : Option Nat := if lo ≤ n ∧ n ≤ hi then some n else none

/-- A port: 0 to 3 (R155). -/
def portField (b : Byte) : Option Port :=
  match b.toNat with
  | 0 => some .A
  | 1 => some .B
  | 2 => some .C
  | 3 => some .D
  | _ => none

/-- A channel: 0 to 11 (R155). -/
def channelField (b : Byte) : Option Channel := if h : b.toNat < 12 then some ⟨b.toNat, h⟩ else none

/-- A group: 0 to 3 (R155). -/
def groupField (b : Byte) : Option (Fin 4) := if h : b.toNat < 4 then some ⟨b.toNat, h⟩ else none

/-- A class or a class floor: 0 to 3. -/
def classField (b : Byte) : Option (Fin 4) := if h : b.toNat < 4 then some ⟨b.toNat, h⟩ else none

/-- A handle: any generation, and a slot of 0 to 23 (R155). -/
def handleField (hi lo : Byte) : Option Handle := if h : lo.toNat < 24 then some ⟨hi, ⟨lo.toNat, h⟩⟩ else none

/-- yes or no, set or clear: 1 or 0 (R155). -/
def flagField (b : Byte) : Option Bool :=
  match b.toNat with
  | 0 => some false
  | 1 => some true
  | _ => none

/-- A polarity: 0 for active low, 1 for active high (R155). -/
def polarityField (b : Byte) : Option Polarity :=
  match b.toNat with
  | 0 => some .activeLow
  | 1 => some .activeHigh
  | _ => none

/-- A group mode: 0 for FOLLOW, 1 for LATCH (R155). -/
def modeField (b : Byte) : Option GroupMode :=
  match b.toNat with
  | 0 => some .follow
  | 1 => some .latch
  | _ => none

/-- An averaging setting: 1, 2, 4 or 8 (R167). -/
def averagingField (b : Byte) : Option Nat :=
  match b.toNat with
  | 1 => some 1
  | 2 => some 2
  | 4 => some 4
  | 8 => some 8
  | _ => none

/-! ### Payloads -/

/-- A payload of length 0. -/
def noOperands : List Byte → Option Unit
  | [] => some ()
  | _ => none

/-- A lease period, 1 to 1000 ticks (R158). -/
def leaseOperand : List Byte → Option Nat
  | [a, b] => within 1 1000 (be16 a b)
  | _ => none

/-- The operands of CLAIM (R159). -/
structure ClaimOperands where
  channel : Channel
  amount : Nat
  cls : Fin 4
deriving DecidableEq, Repr

def claimOperands : List Byte → Option ClaimOperands
  | [c, a, b, k] => do
      let channel ← channelField c
      let amount ← within 1 1023 (be16 a b)
      let cls ← classField k
      some ⟨channel, amount, cls⟩
  | _ => none

/-- The operands of ADJUST (R160). -/
structure AdjustOperands where
  handle : Handle
  amount : Nat
deriving DecidableEq, Repr

def adjustOperands : List Byte → Option AdjustOperands
  | [g, i, a, b] => do
      let handle ← handleField g i
      let amount ← within 1 1023 (be16 a b)
      some ⟨handle, amount⟩
  | _ => none

/-- A handle (R160, R161). -/
def handleOperand : List Byte → Option Handle
  | [g, i] => handleField g i
  | _ => none

/-- A channel and a part, 0 for the record and 1 for the configuration (R163). -/
def queryChannelOperands : List Byte → Option (Channel × Bool)
  | [c, q] => do
      let channel ← channelField c
      let part ← flagField q
      some (channel, part)
  | _ => none

/-- A channel (R164). -/
def channelOperand : List Byte → Option Channel
  | [c] => channelField c
  | _ => none

/-- set or clear (R164). -/
def flagOperand : List Byte → Option Bool
  | [b] => flagField b
  | _ => none

/-- The normal and the derated budget, each 0 to 4095 CU (R166). -/
def budgetOperands : List Byte → Option (Nat × Nat)
  | [a, b, c, d] => do
      let normal ← within 0 4095 (be16 a b)
      let derated ← within 0 4095 (be16 c d)
      some (normal, derated)
  | _ => none

/-- A scan period, 1 to 255 units (R166). -/
def scanOperand : List Byte → Option Nat
  | [b] => within 1 255 b.toNat
  | _ => none

/-- The rail limit and the rail gain, each 0 to 4095 (R166). -/
def railOperands : List Byte → Option (Nat × Nat)
  | [a, b, c, d] => do
      let limit ← within 0 4095 (be16 a b)
      let gain ← within 0 4095 (be16 c d)
      some (limit, gain)
  | _ => none

/-- The operands of SET CHANNEL LOOP (R167). -/
structure LoopOperands where
  channel : Channel
  enable : Bool
  start : Nat
  rampStep : Nat
  downStep : Nat
  deadband : Nat
  averaging : Nat
deriving DecidableEq, Repr

def loopOperands : List Byte → Option LoopOperands
  | [c, e, s1, s2, r1, r2, d1, d2, b, v] => do
      let channel ← channelField c
      let enable ← flagField e
      let start ← within 0 4095 (be16 s1 s2)
      let rampStep ← within 1 1023 (be16 r1 r2)
      let downStep ← within 1 1023 (be16 d1 d2)
      let deadband ← within 0 63 b.toNat
      let averaging ← averagingField v
      some ⟨channel, enable, start, rampStep, downStep, deadband, averaging⟩
  | _ => none

/-- The operands of SET CHANNEL LIMITS (R167). -/
structure LimitsOperands where
  channel : Channel
  rating : Nat
  ceiling : Nat
  guard : Nat
  gain : Nat
deriving DecidableEq, Repr

def limitsOperands : List Byte → Option LimitsOperands
  | [c, r1, r2, t1, t2, m1, m2, g1, g2] => do
      let channel ← channelField c
      let rating ← within 1 1023 (be16 r1 r2)
      let ceiling ← within 0 4095 (be16 t1 t2)
      let guard ← within 1 1023 (be16 m1 m2)
      let gain ← within 0 4095 (be16 g1 g2)
      some ⟨channel, rating, ceiling, guard, gain⟩
  | _ => none

/-- The operands of SET GROUP: the sets are masks of ten inputs and twelve channels (R168). -/
structure GroupOperands where
  group : Fin 4
  inputs : BitVec 10
  targets : BitVec 12
  mode : GroupMode
deriving DecidableEq, Repr

def groupOperands : List Byte → Option GroupOperands
  | [g, i1, i2, t1, t2, m] => do
      let group ← groupField g
      let inputs ← within 0 1023 (be16 i1 i2)
      let targets ← within 0 4095 (be16 t1 t2)
      let mode ← modeField m
      some ⟨group, BitVec.ofNat 10 inputs, BitVec.ofNat 12 targets, mode⟩
  | _ => none

/-- A group (R168). -/
def groupOperand : List Byte → Option (Fin 4)
  | [g] => groupField g
  | _ => none

/-- The five polarities of SET PINS: FLT0 to FLT3, then DERATE (R168). -/
structure PinOperands where
  flt : Vector Polarity 4
  derate : Polarity
deriving DecidableEq, Repr

def pinOperands : List Byte → Option PinOperands
  | [f0, f1, f2, f3, d] => do
      let p0 ← polarityField f0
      let p1 ← polarityField f1
      let p2 ← polarityField f2
      let p3 ← polarityField f3
      let derate ← polarityField d
      some ⟨#v[p0, p1, p2, p3], derate⟩
  | _ => none

/-- The operands of SET QUOTA (R169). -/
structure QuotaOperands where
  port : Port
  quota : Nat
  floor : Fin 4
deriving DecidableEq, Repr

def quotaOperands : List Byte → Option QuotaOperands
  | [p, q, f] => do
      let port ← portField p
      let quota ← within 0 24 q.toNat
      let floor ← classField f
      some ⟨port, quota, floor⟩
  | _ => none

/-- A port (R169). -/
def portOperand : List Byte → Option Port
  | [p] => portField p
  | _ => none

end Sys2Proof.Machine
end

