-- ==== Sys2Proof/Machine/ClaimCommands.lean ====
section
/-! DEFINITION. The claim commands: CLAIM (R8, R9), ADJUST (R12, R13), RELEASE (R14), REVOKE (R15) and QUERY CLAIM
(R161). -/

namespace Sys2Proof.Machine

/-- The largest value of the stamp counter, which is never given as a stamp (R4). -/
def stampLimit : Nat := 4294967295

/-- The lowest-numbered free slot (R9). -/
def State.lowestFree (s : State) : Option (Fin 24) := allSlots.find? fun i => (s.record i).isNone

/-- Whether the port holds a record that names the channel (R7). -/
def State.holdsOn (s : State) (p : Port) (c : Channel) : Bool :=
  allSlots.any fun i =>
    match s.record i with
    | some r => decide (r.port = p ∧ r.channel = c)
    | none => false

/-- The slot that a CLAIM takes, or the status of the first of tests 2 to 8 that fails (R8). -/
def State.admitClaim (s : State) (p : Port) (o : ClaimOperands) : Except Status (Fin 24) :=
  if o.cls < (s.session p).floor then .error .cls
  else if (s.channel o.channel).config.enable = false then .error .disabled
  else if (s.channel o.channel).config.rating < o.amount then .error .overRating
  else if s.budget.normal < o.amount then .error .tooLarge
  else if s.holdsOn p o.channel then .error .duplicate
  else if (s.session p).quota ≤ s.count p then .error .quota
  else
    match s.lowestFree with
    | some i => if s.stamp < stampLimit then .ok i else .error .full
    | none => .error .full

/-- The new record (R9). -/
def State.makeClaim (s : State) (p : Port) (o : ClaimOperands) (i : Fin 24) : State :=
  { (s.setSlot i ⟨(s.slot i).gen, some ⟨p, o.channel, o.amount, o.cls, s.stamp, .pending, 0⟩⟩).setCount p
      (s.count p + 1) with stamp := s.stamp + 1 }

/-- CLAIM at the allocator (R8, R9). -/
def claimOwn (p : Port) (o : ClaimOperands) (s : State) : State × Reply :=
  match s.admitClaim p o with
  | .error st => (s, .refuse st)
  | .ok i =>
    let t := (s.makeClaim p o i).allocationPass
    (t, ⟨.ok, byte2 (t.handleAt i).code ++ byte1 (bit (t.recordIs .granted i))⟩)

/-- CLAIM, opcode 0x10. -/
def execClaim (s : State) : Result := .next (s.execute 0x10#8 claimOperands .openOnly false claimOwn)

/-- A record's amount is changed (R12, R13). -/
def State.setAmount (s : State) (i : Fin 24) (r : Claim) (amount : Nat) : State :=
  s.setSlot i ⟨(s.slot i).gen, some { r with amount := amount }⟩

/-- TARGET to a channel loop (R63). -/
def State.sendTarget (s : State) (c : Channel) (amount : Nat) : State :=
  s.setChannel c ((s.channel c).retarget amount)

/-- An ADJUST that has passed the tests of R12, on the record `r` of slot `i` (R12, R13). -/
def State.adjustRecord (s : State) (i : Fin 24) (r : Claim) (amount : Nat) : State × Reply :=
  match r.state with
  | .pending => ((s.setAmount i r amount).allocationPass, .done)
  | .granted =>
    if amount < r.amount then
      ((((s.setAmount i r amount).lowerGranted (r.amount - amount)).sendTarget r.channel amount).allocationPass, .done)
    else if amount = r.amount then (s, .done)
    else if ((amount - r.amount : Nat) : Int) ≤ s.headroom then
      (((s.setAmount i r amount).raiseGranted (amount - r.amount)).sendTarget r.channel amount, .done)
    else (s, .refuse .short)

/-- ADJUST at the allocator (R3, R12, R13). -/
def adjustOwn (p : Port) (o : AdjustOperands) (s : State) : State × Reply :=
  match s.resolve o.handle with
  | none => (s, .refuse .stale)
  | some r =>
    if r.port ≠ p then (s, .refuse .notOwner)
    else if (s.channel r.channel).config.rating < o.amount then (s, .refuse .overRating)
    else s.adjustRecord o.handle.slot r o.amount

/-- ADJUST, opcode 0x11. -/
def execAdjust (s : State) : Result := .next (s.execute 0x11#8 adjustOperands .openOnly false adjustOwn)

/-- RELEASE at the allocator (R3, R14). -/
def releaseOwn (p : Port) (h : Handle) (s : State) : State × Reply :=
  match s.resolve h with
  | none => (s, .refuse .stale)
  | some r =>
    if r.port ≠ p then (s, .refuse .notOwner) else ((s.dropRecord h.slot).allocationPass, .done)

/-- RELEASE, opcode 0x12. -/
def execRelease (s : State) : Result := .next (s.execute 0x12#8 handleOperand .openOnly false releaseOwn)

/-- REVOKE at the allocator (R15): no owner test, and a REVOKED notice ahead of the pass. -/
def revokeOwn (_ : Port) (h : Handle) (s : State) : State × Reply :=
  match s.resolve h with
  | none => (s, .refuse .stale)
  | some r =>
    let t := s.dropRecord h.slot
    ((t.notify r.port (t.claimNotice .revoked r.channel (some h) none)).allocationPass, .done)

/-- REVOKE, opcode 0x4A. -/
def execRevoke (s : State) : Result := .next (s.execute 0x4A#8 handleOperand .openOnly true revokeOwn)

/-- The fourteen bytes of QUERY CLAIM (R161). -/
def State.claimPayload (s : State) (h : Handle) (r : Claim) : List Byte :=
  byte2 h.code ++ byte1 (portCode r.port) ++ byte1 r.channel.val ++ byte2 r.amount ++ byte1 r.cls.val ++ byte4 r.stamp
    ++ byte1 r.state.code ++ byte1 r.shed
    ++ byte1 (match r.state with | .pending => s.position r | .granted => 0)

/-- QUERY CLAIM at the allocator (R3, R161). -/
def queryClaimOwn (p : Port) (h : Handle) (s : State) : State × Reply :=
  match s.resolve h with
  | none => (s, .refuse .stale)
  | some r =>
    if r.port ≠ p ∧ (s.session p).supervisor = false then (s, .refuse .notOwner)
    else (s, ⟨.ok, s.claimPayload h r⟩)

/-- QUERY CLAIM, opcode 0x13. -/
def execQueryClaim (s : State) : Result := .next (s.execute 0x13#8 handleOperand .openOnly false queryClaimOwn)

end Sys2Proof.Machine
end

