-- ==== Sys2Proof/Machine/Resets.lean ====
section
/-! DEFINITION. Power-on reset, pin reset and their release (R116, R141, R156, R173). -/

namespace Sys2Proof.Machine

/-- Every block at its initial values, the reset held, with a cause. The queue of waiting commands and the count of free
choices are the model's own and are kept. -/
def State.initial (s : State) (cause : ResetCause) : State :=
  { State.reset with cause := cause, choice := s.choice, pending := s.pending }

/-- POWER_ON_RESET (R156). -/
def execPowerOnReset (s : State) : Result := .next (s.initial .powerOn)

/-- The cause that a pin reset records: POWER_ON stands where it is taken while a power-on reset is held (R156). -/
def pinCause (s : State) : ResetCause := if s.resetHeld ∧ s.cause = .powerOn then .powerOn else .pin

/-- PIN_RESET (R156, R173). -/
def execPinReset (s : State) : Result := .next (s.initial (pinCause s))

/-- The supervisor port that the straps select (R116). -/
def strapPort (supv1 supv0 : Bool) : Port :=
  match supv1, supv0 with
  | false, false => .A
  | false, true => .B
  | true, false => .C
  | true, true => .D

/-- A session record as the strap sample leaves it (R115, R116). -/
def Session.strapped (x : Session) (isSupervisor : Bool) : Session :=
  { x with supervisor := isSupervisor, floor := if isSupervisor then 0 else 2 }

/-- The four session records as the strap sample leaves them. -/
def State.sampleStraps (s : State) (sup : Port) : State :=
  allPorts.foldl (fun t p => t.setSession p ((t.session p).strapped (decide (p = sup)))) s

/-- The FLT input states that the pins give under active low (R102, R114). -/
def fltInputs (flt : Vector Bool 4) : BitVec 10 :=
  allGroups.foldl (fun b i => setInput b (.flt i) (assertedAt .activeLow flt[i])) 0#10

/-- The FLT and DERATE pins sampled at the release, under active low: no event follows (R22, R102). -/
def State.samplePins (s : State) (flt : Vector Bool 4) (derate : Bool) : State :=
  { s with
    trip := { s.trip with fltLevel := flt, inputs := fltInputs flt }
    budget := { s.budget with derateLevel := derate, derateOn := assertedAt .activeLow derate } }

/-- A cycle start: the counter rises by one, wrapping, and a pending period takes force (R87, R88). -/
def Scanner.startCycle (x : Scanner) : Scanner :=
  { x with counter := x.counter + 1#16, period := x.pendingPeriod.getD x.period, pendingPeriod := none, position := 0 }

/-- A modulator at a frame start takes the channel's drive level (R172). -/
def Modulator.startFrame (x : Modulator) (drive : Nat) : Modulator := { x with level := drive }

/-- A frame start (R172). -/
def State.startFrame (s : State) : State :=
  { s with modulators := Vector.ofFn fun c => (s.modulators[c]).startFrame (s.channel c).drive, frameSlot := 0 }

/-- The release of a held reset: the straps and pins are sampled, the first scan cycle starts and the first output frame
starts (R87, R116, R170, R173). -/
def State.releaseReset (s : State) (sup : Port) (flt : Vector Bool 4) (derate : Bool) : State :=
  let t := (s.sampleStraps sup).samplePins flt derate
  { t.setScan t.scan.startCycle with resetHeld := false }.startFrame

/-- RESET_RELEASE (R116). It arises only while a reset is held (notes/assumptions/6.md). -/
def execResetRelease (supv1 supv0 : Bool) (flt : Vector Bool 4) (derate : Bool) (s : State) : Result :=
  .next (if s.resetHeld then s.releaseReset (strapPort supv1 supv0) flt derate else s)

/-- PORT_SELECT_DEASSERTED_AFTER_RESET (R141). -/
def execPortSelectDeassertedAfterReset (p : Port) (s : State) : Result :=
  .next (if s.resetHeld then s else s.setPort p { s.port p with listening := true })

end Sys2Proof.Machine
end

