-- ==== Sys2Proof/Machine/Drive.lean ====
section
/-! DEFINITION. The drive modulators (R170 to R173). While a reset is held they hold their values and every pin is
low. -/

namespace Sys2Proof.Machine

/-- FRAME_START (R172). -/
def execFrameStart (s : State) : Result := .next (if s.resetHeld then s else s.startFrame)

/-- A modulator at a slot start (R171): the residue joins the accumulator, and a sum of 64 or more makes an extended
slot. -/
def Modulator.startSlot (x : Modulator) : Modulator :=
  let q := x.level / 64
  let r := x.level % 64
  if 64 ≤ x.acc + r then { x with acc := x.acc + r - 64, high := q + 1 } else { x with acc := x.acc + r, high := q }

/-- A slot start of all twelve modulators, whose boundaries fall together (R170, R171). -/
def State.startSlot (s : State) : State :=
  { s with modulators := Vector.ofFn fun c => (s.modulators[c]).startSlot, frameSlot := s.frameSlot + 1 }

/-- SLOT_START (R171). -/
def execSlotStart (s : State) : Result := .next (if s.resetHeld then s else s.startSlot)

/-- A channel's output pin at a clock, 0 to 63, of the present slot: high for the slot's high time, and low while a reset
is held (R171, R173). -/
def State.drvPin (s : State) (c : Channel) (clock : Nat) : Bool :=
  !s.resetHeld && decide (clock < (s.modulators[c]).high)

end Sys2Proof.Machine
end

