-- ==== Sys2Proof/Machine/Lease.lean ====
section
/-! DEFINITION. Lease ticks and expiry (R119, R124). The timer of a session that is not OPEN does not run, so no tick of
it arises (notes/assumptions/6.md). -/

namespace Sys2Proof.Machine

/-- LEASE_TICK (R119). A tick that leaves no time remaining is the expiry. -/
def execLeaseTick (p : Port) (s : State) : Result := .next (if s.isOpen p then s.tick p else s)

/-- LEASE_EXPIRY (R124): the tick that brings the time remaining to 0. -/
def execLeaseExpiry (p : Port) (s : State) : Result :=
  .next (if s.isOpen p ∧ (s.session p).remaining ≤ 1 then s.tick p else s)

end Sys2Proof.Machine
end

