-- ==== Sys2Proof/Machine/PartCommands.lean ====
section
/-! DEFINITION. The commands that act on ports and on the whole part: SET QUOTA (R130), EVICT (R127) and RESTART
(R169). -/

namespace Sys2Proof.Machine

/-- SET QUOTA at the session table (R130). -/
def setQuotaOwn (_ : Port) (o : QuotaOperands) (s : State) : State × Reply :=
  (s.setSession o.port { s.session o.port with quota := o.quota, floor := o.floor }, .done)

/-- SET QUOTA, opcode 0x49. -/
def execSetQuota (s : State) : Result := .next (s.execute 0x49#8 quotaOperands .openOnly true setQuotaOwn)

/-- EVICT at the session table (R127). -/
def evictOwn (p : Port) (target : Port) (s : State) : State × Reply :=
  if target = p then (s, .refuse .state)
  else if s.isOpen target then (s.lapse target, .done)
  else (s, .refuse .state)

/-- EVICT, opcode 0x4B. -/
def execEvict (s : State) : Result := .next (s.execute 0x4B#8 portOperand .openOnly true evictOwn)

/-- A slot freed by RESTART: an occupied one's generation rises by one (R19). -/
def Slot.restart (x : Slot) : Slot := if x.record.isSome then ⟨x.gen + 1#8, none⟩ else x

/-- RESTART at the allocator (R4, R19, R41): every record freed, every sum and release amount 0. -/
def State.restartClaims (s : State) : State :=
  { s with
    slots := Vector.ofFn fun i => (s.slot i).restart
    stamp := 0
    counts := PerPort.const 0
    budget := { s.budget with granted := 0, releasing := 0 }
    releases := Vector.replicate 12 0 }

/-- RESTART at the channel loops (R86). -/
def State.restartChannels (s : State) : State := { s with channels := Vector.ofFn fun c => (s.channel c).restart }

/-- RESTART at the scanner (R99). -/
def State.restartScanner (s : State) : State :=
  s.setScan { s.scan with windows := Vector.replicate 12 Window.reset, railFlag := false }

/-- Every soft bit cleared (R113). -/
def State.clearSofts (s : State) : State :=
  allPorts.foldl (fun t p => t.setSession p { t.session p with soft := false }) s

/-- RESTART at the trip unit (R113): the soft bits are cleared and RAIL and TRIPANY deasserted, and the groups take their
states from their input conditions alone. -/
def State.restartGroups (s : State) : State :=
  let t := s.clearSofts.setTrip { s.trip with inputs := s.trip.inputs &&& 0xF#10 }
  t.putGroups (Vector.ofFn fun g => (t.group g).restart t.trip.inputs)

/-- The end of one port's session within a RESTART that `sup` sent (R129). -/
def State.restartSession (s : State) (sup p : Port) : State :=
  if s.isOpen p then (if p = sup then s.endSession p .closed else s.lapse p) else s

/-- RESTART (R129, R140, R156, R169): the blocks' parts in the order of R169, and the pass of R41. -/
def State.restartPart (s : State) (sup : Port) : State :=
  let s1 := s.restartClaims.restartChannels.restartScanner.restartGroups
  let s2 := allPorts.foldl (fun t p => t.restartSession sup p) s1
  let s3 := allPorts.foldl (fun t p => t.emptyNotices p) s2
  { s3 with cause := .restart }.allocationPass

/-- RESTART at every block. -/
def restartOwn (p : Port) (_ : Unit) (s : State) : State × Reply := (s.restartPart p, .done)

/-- RESTART, opcode 0x4C. -/
def execRestart (s : State) : Result := .next (s.execute 0x4C#8 noOperands .openOnly true restartOwn)

end Sys2Proof.Machine
end

