-- ==== Sys2Proof/Machine/Pins.lean ====
section
/-! DEFINITION. Changes of the DERATE and FLT pins (R22, R102). While a reset is held the pins are not sampled. -/

namespace Sys2Proof.Machine

/-- DERATE takes a level. A change of the asserted state is a DERATE event (R22). -/
def State.derateLevel (s : State) (level : Bool) : State :=
  let on := assertedAt s.budget.deratePolarity level
  let t := { s with budget := { s.budget with derateLevel := level } }
  if on = s.budget.derateOn then t else t.derateEvent on

/-- DERATE_EVENT (R22). -/
def execDerateEvent (level : Bool) (s : State) : Result :=
  .next (if s.resetHeld then s else s.derateLevel level)

/-- An FLT pin takes a level. A change of the asserted state is an input event (R102). -/
def State.fltLevel (s : State) (pin : FltPin) (level : Bool) : State :=
  let on := assertedAt s.trip.fltPolarity[pin] level
  let t := s.setTrip { s.trip with fltLevel := s.trip.fltLevel.set pin level }
  if on = s.input (.flt pin) then t else t.inputEvent (.flt pin) on

/-- FLT_PIN_CHANGE (R102). -/
def execFltPinChange (pin : FltPin) (level : Bool) (s : State) : Result :=
  .next (if s.resetHeld then s else s.fltLevel pin level)

end Sys2Proof.Machine
end

