-- ==== Sys2Proof/Machine/QueryCommands.lean ====
section
/-! DEFINITION. QUERY BUDGET (R162), QUERY CHANNEL (R163) and TAKE NOTICE (R136, R165). -/

namespace Sys2Proof.Machine

/-- The thirteen bytes of QUERY BUDGET (R162). -/
def State.budgetPayload (s : State) : List Byte :=
  byte2 s.budget.normal ++ byte2 s.budget.derated ++ byte1 (bit s.budget.derateOn) ++ byte2 s.budget.effective
    ++ byte2 s.budget.granted ++ byte2 s.budget.releasing ++ signed2 s.headroom

/-- QUERY BUDGET (R27). -/
def queryBudgetOwn (_ : Port) (_ : Unit) (s : State) : State × Reply := (s, ⟨.ok, s.budgetPayload⟩)

/-- QUERY BUDGET, opcode 0x30. -/
def execQueryBudget (s : State) : Result := .next (s.execute 0x30#8 noOperands .openOnly false queryBudgetOwn)

/-- The twenty bytes of part 0 (R163). -/
def ChannelRecord.recordPayload (r : ChannelRecord) (c : Channel) : List Byte :=
  byte1 c.val ++ byte1 r.state.code ++ byte2 r.drive ++ byte2 r.target ++ optional2 (r.holder.map Handle.code)
    ++ byte1 (bit r.hold) ++ byte1 r.voteDir.code ++ byte1 r.voteCount ++ byte1 r.confirm ++ byte1 r.run
    ++ byte1 r.strikes ++ byte1 (bit r.settled) ++ byte2 r.measured ++ optional1 (r.tripOwner.map portCode)
    ++ byte2 r.tripValue

/-- The eighteen bytes of part 1 (R163). -/
def ChannelConfig.payload (g : ChannelConfig) (c : Channel) : List Byte :=
  byte1 c.val ++ byte1 (bit g.enable) ++ byte2 g.start ++ byte2 g.rampStep ++ byte2 g.downStep ++ byte1 g.deadband
    ++ byte1 g.averaging ++ byte2 g.rating ++ byte2 g.ceiling ++ byte2 g.guard ++ byte2 g.gain

/-- QUERY CHANNEL (R66, R163): the record, or the configuration. -/
def queryChannelOwn (_ : Port) (o : Channel × Bool) (s : State) : State × Reply :=
  (s, ⟨.ok, if o.2 then (s.channel o.1).config.payload o.1 else (s.channel o.1).recordPayload o.1⟩)

/-- QUERY CHANNEL, opcode 0x20. -/
def execQueryChannel (s : State) : Result :=
  .next (s.execute 0x20#8 queryChannelOperands .openOnly false queryChannelOwn)

/-- The thirteen bytes of a returned record (R165). -/
def Notice.payload (n : Notice) (remaining : Nat) : List Byte :=
  byte1 n.kind.code ++ byte2 n.stamp.toNat ++ optional1 (n.channel.map Fin.val) ++ optional2 (n.handle.map Handle.code)
    ++ optional2 n.value ++ optional1 (n.derate.map bit) ++ byte2 n.kindsLost.toNat ++ byte1 n.lostCount
    ++ byte1 remaining

/-- The queue after the oldest record has left it, `rest` being the others: a non-empty summary is placed at the back as
an OVERFLOW record and becomes empty (R136). -/
def State.afterTake (s : State) (q : NoticeQueue) (rest : List Notice) : NoticeQueue :=
  if 0 < q.lostCount then
    { q with queue := rest ++ [s.overflowNotice q], lostKinds := 0#16, lostCount := 0 }.formAttn
  else { q with queue := rest }.formAttn

/-- TAKE NOTICE at the notice unit (R136). -/
def takeNoticeOwn (p : Port) (_ : Unit) (s : State) : State × Reply :=
  match (s.noticesOf p).queue with
  | [] => (s, .refuse .empty)
  | n :: rest =>
    let q := s.afterTake (s.noticesOf p) rest
    (s.setNotices p q, ⟨.ok, n.payload q.queue.length⟩)

/-- TAKE NOTICE, opcode 0x31. -/
def execTakeNotice (s : State) : Result := .next (s.execute 0x31#8 noOperands .openOnly false takeNoticeOwn)

end Sys2Proof.Machine
end

