-- ==== Sys2Proof/Machine/Scan.lean ====
section
/-! DEFINITION. The measurement scanner (R87 to R94), and the loop's MEASUREMENT action with the reports it leads to
(R53, R62, R76, R79). While a reset is held no conversion is made (R98). -/

namespace Sys2Proof.Machine

/-- SCAN_CYCLE_START (R87). -/
def execScanCycleStart (s : State) : Result :=
  .next (if s.resetHeld then s else s.setScan s.scan.startCycle)

/-- The code that the converter gives for an input (R89). -/
def convert (input : Int) : Nat := min 4095 input.toNat

/-- A code, or a mean of codes, in CU (R89). -/
def scaled (gain code : Nat) : Nat := min 4095 (code * gain / 1024)

/-- The TRIPPED report of a measurement action: with the noted handle in a granted state, without one in RELEASING
(R79 step 5). `before` is the channel record as the measurement found it. -/
def State.reportTrip (s : State) (before : ChannelRecord) (c : Channel) (m : Nat) : State :=
  if before.state = .releasing then s.tripReportUnowned c
  else
    match before.holder with
    | some h => s.tripReport c h m
    | none => s.allocationPass

/-- A trip's two consequences: the allocator takes the TRIPPED report, and the trip unit a rise of TRIPANY. They may be
taken in either order (R81, R112), which a free value decides where a group watches TRIPANY. -/
def State.afterTrip (s : State) (before : ChannelRecord) (c : Channel) (m : Nat) : State :=
  if s.tripanyWatched ∧ s.input .tripany = false then
    let t := { s with choice := s.choice + 1 }
    if Config.tripanyFirst s.choice then t.followTripany.reportTrip before c m
    else (t.reportTrip before c m).followTripany
  else (s.reportTrip before c m).followTripany

/-- A MEASUREMENT, with what the loop makes of it taken within the action (R28, R53). -/
def State.measurement (s : State) (c : Channel) (m : Nat) : State :=
  let before := s.channel c
  let out := before.measure m (s.holderPort c)
  let t := s.setChannel c out.1
  match out.2 with
  | .none => t
  | .settled => t.notifyHolder .settled c (some out.1.drive)
  | .limited => t.notifyHolder .limited c (some m)
  | .idleReached => (t.idleReached c).allocationPass
  | .tripped => t.afterTrip before c m

/-- A conversion's code enters the channel's window; the sum and count return to 0 when it completes it (R90). -/
def Window.add (w : Window) (code averaging : Nat) : Window :=
  if w.count + 1 = averaging then Window.reset else ⟨w.sum + code, w.count + 1⟩

/-- The scanner at the end of a channel's conversion. -/
def State.windowAdd (s : State) (c : Channel) (code : Nat) : State :=
  s.setScan { s.scan with
    windows := s.scan.windows.set c ((s.scan.windows[c]).add code (s.channel c).config.averaging)
    position := c.val + 1 }

/-- The end of a channel's conversion: a complete window delivers its scaled mean (R90). -/
def State.channelConversion (s : State) (c : Channel) (code : Nat) : State :=
  let w := s.scan.windows[c]
  let cfg := (s.channel c).config
  let t := s.windowAdd c code
  if w.count + 1 = cfg.averaging then t.measurement c (scaled cfg.gain ((w.sum + code) / cfg.averaging)) else t

/-- CHANNEL_CONVERSION_END (R90). -/
def execChannelConversionEnd (ch : Channel) (input : Int) (s : State) : Result :=
  .next (if s.resetHeld then s else s.channelConversion ch (convert input))

/-- The end of the rail conversion: a measurement above a non-zero limit sets the rail flag, and the trip unit takes the
rise of RAIL (R93, R94). -/
def State.railConversion (s : State) (code : Nat) : State :=
  let m := scaled s.scan.railGain code
  let t := s.setScan { s.scan with railValue := m, position := 13 }
  if 0 < s.scan.railLimit ∧ s.scan.railLimit < m ∧ s.scan.railFlag = false then
    (t.setScan { t.scan with railFlag := true }).inputEvent .rail true
  else t

/-- RAIL_CONVERSION_END (R93). -/
def execRailConversionEnd (input : Int) (s : State) : Result :=
  .next (if s.resetHeld then s else s.railConversion (convert input))

end Sys2Proof.Machine
end

