-- ==== Sys2Proof/Machine/SessionCommands.lean ====
section
/-! DEFINITION. Unknown opcodes (R152), the commands of a session's own lease (R118 to R126, R158), and STATUS (R157). -/

namespace Sys2Proof.Machine

/-- UNKNOWN_OPCODE (R152 check 1): the executor takes a waiting command whose opcode is none of the commands'. -/
def execUnknownOpcode (s : State) : Result :=
  .next
    (match s.nextWaiting with
    | none => s
    | some (p, c) =>
      if knownOpcodes.contains c.opcode then s else answer p c (s.takeFrom p, .refuse .unknown))

/-- An accepted OPEN (R118). -/
def Session.openWith (x : Session) (period : Nat) : Session :=
  { x with state := .opened, current := some period, next := none, remaining := period, warned := false }

/-- OPEN at the session table (R118). -/
def openOwn (p : Port) (period : Nat) (s : State) : State × Reply :=
  if s.isOpen p then (s, .refuse .state) else (s.setSession p ((s.session p).openWith period), .done)

/-- OPEN, opcode 0x01. -/
def execOpenSession (s : State) : Result := .next (s.execute 0x01#8 leaseOperand .always false openOwn)

/-- CLOSE at the session table (R126). -/
def closeOwn (p : Port) (_ : Unit) (s : State) : State × Reply := (s.endSession p .closed, .done)

/-- CLOSE, opcode 0x02. -/
def execCloseSession (s : State) : Result := .next (s.execute 0x02#8 noOperands .openOnly false closeOwn)

/-- The current period that RENEW puts in force (R121 step 1). -/
def Session.renewedPeriod (x : Session) : Nat := (x.next.or x.current).getD 0

/-- An accepted RENEW (R121). -/
def Session.renewed (x : Session) : Session :=
  { x with current := x.next.or x.current, next := none, remaining := x.renewedPeriod, warned := false }

/-- RENEW at the session table (R121). -/
def renewOwn (p : Port) (_ : Unit) (s : State) : State × Reply :=
  (s.setSession p (s.session p).renewed, ⟨.ok, byte2 (s.session p).renewedPeriod⟩)

/-- RENEW, opcode 0x03. -/
def execRenew (s : State) : Result := .next (s.execute 0x03#8 noOperands .openOnly false renewOwn)

/-- SET LEASE at the session table (R122). -/
def setLeaseOwn (p : Port) (period : Nat) (s : State) : State × Reply :=
  (s.setSession p { s.session p with next := some period }, .done)

/-- SET LEASE, opcode 0x04. -/
def execSetLease (s : State) : Result := .next (s.execute 0x04#8 leaseOperand .openOnly false setLeaseOwn)

/-- The port whose supervisor flag is set (R116). -/
def State.supervisorPort (s : State) : Option Port := allPorts.find? fun p => (s.session p).supervisor

/-- The fifteen bytes of STATUS (R157). -/
def State.statusPayload (s : State) (p : Port) : List Byte :=
  byte1 s.cause.code
    ++ optional1 (s.supervisorPort.map portCode)
    ++ byte2 s.scan.counter.toNat
    ++ byte1 (bit s.scan.railFlag)
    ++ byte2 s.scan.railValue
    ++ byte1 (s.group 0).state.code ++ byte1 (s.group 1).state.code
    ++ byte1 (s.group 2).state.code ++ byte1 (s.group 3).state.code
    ++ byte1 (bit s.trip.fault)
    ++ byte1 (s.session p).state.code
    ++ byte2 (s.session p).remaining

/-- STATUS (R157). -/
def statusOwn (p : Port) (_ : Unit) (s : State) : State × Reply := (s, ⟨.ok, s.statusPayload p⟩)

/-- STATUS, opcode 0x05. -/
def execStatus (s : State) : Result := .next (s.execute 0x05#8 noOperands .always false statusOwn)

end Sys2Proof.Machine
end

