-- ==== Sys2Proof/Machine/SupervisorCommands.lean ====
section
/-! DEFINITION. The supervisor's settings of the budget, the scanner and the channels: SET BUDGET (R21), SET SCAN (R88),
SET RAIL (R95), CLEAR RAIL (R96), SET CHANNEL LOOP (R46) and SET CHANNEL LIMITS (R47). -/

namespace Sys2Proof.Machine

/-- SET BUDGET at the allocator (R21). -/
def setBudgetOwn (_ : Port) (o : Nat × Nat) (s : State) : State × Reply :=
  ({ s with budget := { s.budget with normal := o.1, derated := o.2 } }.reformBudget true, .done)

/-- SET BUDGET, opcode 0x40. -/
def execSetBudget (s : State) : Result := .next (s.execute 0x40#8 budgetOperands .openOnly true setBudgetOwn)

/-- SET SCAN at the scanner (R88). -/
def setScanOwn (_ : Port) (period : Nat) (s : State) : State × Reply :=
  (s.setScan { s.scan with pendingPeriod := some period }, .done)

/-- SET SCAN, opcode 0x43. -/
def execSetScan (s : State) : Result := .next (s.execute 0x43#8 scanOperand .openOnly true setScanOwn)

/-- SET RAIL at the scanner (R95). -/
def setRailOwn (_ : Port) (o : Nat × Nat) (s : State) : State × Reply :=
  (s.setScan { s.scan with railLimit := o.1, railGain := o.2 }, .done)

/-- SET RAIL, opcode 0x44. -/
def execSetRail (s : State) : Result := .next (s.execute 0x44#8 railOperands .openOnly true setRailOwn)

/-- CLEAR RAIL at the scanner (R94, R96). -/
def clearRailOwn (_ : Port) (_ : Unit) (s : State) : State × Reply :=
  if 0 < s.scan.railLimit ∧ s.scan.railLimit < s.scan.railValue then (s, .refuse .stillHigh)
  else if s.scan.railFlag then ((s.setScan { s.scan with railFlag := false }).inputEvent .rail false, .done)
  else (s, .done)

/-- CLEAR RAIL, opcode 0x45. -/
def execClearRail (s : State) : Result := .next (s.execute 0x45#8 noOperands .openOnly true clearRailOwn)

/-- Whether a claim record names the channel (R46). -/
def State.named (s : State) (c : Channel) : Bool :=
  allSlots.any fun i =>
    match s.record i with
    | some r => decide (r.channel = c)
    | none => false

/-- The six fields of SET CHANNEL LOOP stored (R46). -/
def ChannelRecord.setLoop (r : ChannelRecord) (o : LoopOperands) : ChannelRecord :=
  { r with config := { r.config with enable := o.enable, start := o.start, rampStep := o.rampStep,
                                     downStep := o.downStep, deadband := o.deadband, averaging := o.averaging } }

/-- A channel's averaging window restarts (R91). -/
def State.restartWindow (s : State) (c : Channel) : State :=
  s.setScan { s.scan with windows := s.scan.windows.set c Window.reset }

/-- SET CHANNEL LOOP at the loop (R46, R91). -/
def setChannelLoopOwn (_ : Port) (o : LoopOperands) (s : State) : State × Reply :=
  let r := s.channel o.channel
  if (r.state = .idle ∨ r.state = .tripped) ∧ s.named o.channel = false then
    ((s.setChannel o.channel (r.setLoop o)).restartWindow o.channel, .done)
  else (s, .refuse .channelBusy)

/-- SET CHANNEL LOOP, opcode 0x41. -/
def execSetChannelLoop (s : State) : Result := .next (s.execute 0x41#8 loopOperands .openOnly true setChannelLoopOwn)

/-- The four fields of SET CHANNEL LIMITS: the ceiling by a CEILING CHANGE event (R47). -/
def ChannelRecord.setLimits (r : ChannelRecord) (o : LimitsOperands) : ChannelRecord :=
  ({ r with config := { r.config with rating := o.rating, guard := o.guard, gain := o.gain } } : ChannelRecord).changeCeiling
    o.ceiling

/-- SET CHANNEL LIMITS at the loop (R47). -/
def setChannelLimitsOwn (_ : Port) (o : LimitsOperands) (s : State) : State × Reply :=
  (s.setChannel o.channel ((s.channel o.channel).setLimits o), .done)

/-- SET CHANNEL LIMITS, opcode 0x42. -/
def execSetChannelLimits (s : State) : Result :=
  .next (s.execute 0x42#8 limitsOperands .openOnly true setChannelLimitsOwn)

end Sys2Proof.Machine
end

