-- ==== Sys2Proof/Machine/TripCommands.lean ====
section
/-! DEFINITION. CLEAR TRIP (R82, R83), SOFT TRIP (R110), SET GROUP (R108), CLEAR GROUP (R109) and SET PINS (R103). -/

namespace Sys2Proof.Machine

/-- CLEAR TRIP at the loop (R82, R83): the channel becomes IDLE, TRIPANY falls where it was the last, and a pass runs. -/
def clearTripOwn (p : Port) (c : Channel) (s : State) : State × Reply :=
  let r := s.channel c
  if r.state ≠ .tripped then (s, .refuse .state)
  else if (s.session p).supervisor = false ∧ r.tripOwner ≠ some p then (s, .refuse .notOwner)
  else ((s.setChannel c r.clearTrip).followTripany.allocationPass, .done)

/-- CLEAR TRIP, opcode 0x21. -/
def execClearTrip (s : State) : Result := .next (s.execute 0x21#8 channelOperand .openOnly false clearTripOwn)

/-- SOFT TRIP at the trip unit (R110). -/
def softTripOwn (p : Port) (v : Bool) (s : State) : State × Reply :=
  if (s.session p).soft = v then (s, .done)
  else ((s.setSession p { s.session p with soft := v }).inputEvent (.soft p) v, .done)

/-- SOFT TRIP, opcode 0x22. -/
def execSoftTrip (s : State) : Result := .next (s.execute 0x22#8 flagOperand .openOnly false softTripOwn)

/-- The groups after SET GROUP: the new fields stored, and the group's state settled against its new input set (R108). -/
def State.groupsSet (s : State) (o : GroupOperands) : Vector Group 4 :=
  s.trip.groups.set o.group
    (({ s.group o.group with inputs := o.inputs, targets := o.targets, mode := o.mode } : Group).settle s.trip.inputs)

/-- SET GROUP at the trip unit (R108). -/
def setGroupOwn (_ : Port) (o : GroupOperands) (s : State) : State × Reply := (s.tripAction (s.groupsSet o), .done)

/-- SET GROUP, opcode 0x46. -/
def execSetGroup (s : State) : Result := .next (s.execute 0x46#8 groupOperands .openOnly true setGroupOwn)

/-- CLEAR GROUP at the trip unit (R109). -/
def clearGroupOwn (_ : Port) (g : Fin 4) (s : State) : State × Reply :=
  match (s.group g).state with
  | .idle => (s, .done)
  | .active => (s, .refuse .stillActive)
  | .latched => (s.tripAction (s.trip.groups.set g { s.group g with state := .idle }), .done)

/-- CLEAR GROUP, opcode 0x47. -/
def execClearGroup (s : State) : Result := .next (s.execute 0x47#8 groupOperand .openOnly true clearGroupOwn)

/-- The FLT pins whose asserted state differs from the recorded one under the polarities in force (R103). -/
def State.changedPins (s : State) : List FltPin :=
  allGroups.filter fun i => assertedAt s.trip.fltPolarity[i] s.trip.fltLevel[i] != s.input (.flt i)

/-- A pin put into a list of pins in ascending order of the free key. -/
def insertPin (k : Nat) (i : FltPin) : List FltPin → List FltPin
  | [] => [i]
  | j :: rest => if Config.pinKey k i ≤ Config.pinKey k j then i :: j :: rest else j :: insertPin k i rest

/-- The order in which SET PINS takes the changed pins: any order, by the free key (notes/assumptions/3.md). -/
def pinOrder (k : Nat) : List FltPin → List FltPin
  | [] => []
  | i :: rest => insertPin k i (pinOrder k rest)

/-- The changed pins taken one after another, each as an input event of its own (R103). -/
def State.takePins (s : State) : List FltPin → State
  | [] => s
  | i :: rest => (s.inputEventNoPass (.flt i) (!s.input (.flt i))).takePins rest

/-- Whether one of those input events ends a wind-down (R103). -/
def State.pinsEndWindDown (s : State) : List FltPin → Bool
  | [] => false
  | i :: rest =>
      s.inputEventEndsWindDown (.flt i) (!s.input (.flt i))
        || (s.inputEventNoPass (.flt i) (!s.input (.flt i))).pinsEndWindDown rest

/-- The five polarities stored (R103). -/
def State.storePolarities (s : State) (o : PinOperands) : State :=
  { s with trip := { s.trip with fltPolarity := o.flt }, budget := { s.budget with deratePolarity := o.derate } }

/-- A free choice is counted when there is an order to choose (R103). -/
def State.countPinChoice (s : State) : State :=
  if 2 ≤ s.changedPins.length then { s with choice := s.choice + 1 } else s

/-- SET PINS at the trip unit and the allocator (R103): the FLT changes, then a DERATE change, then one pass, which is the
DERATE event's where there is one and runs otherwise only where a HOLD has ended a wind-down. -/
def setPinsOwn (_ : Port) (o : PinOperands) (s : State) : State × Reply :=
  let s1 := s.storePolarities o
  let order := pinOrder s1.choice s1.changedPins
  let s2 := s1.countPinChoice
  let s3 := s2.takePins order
  let on := assertedAt o.derate s.budget.derateLevel
  if on = s.budget.derateOn then
    (if s2.pinsEndWindDown order then s3.allocationPass else s3, .done)
  else (s3.derateEvent on, .done)

/-- SET PINS, opcode 0x48. -/
def execSetPins (s : State) : Result := .next (s.execute 0x48#8 pinOperands .openOnly true setPinsOwn)

end Sys2Proof.Machine
end

