-- ==== Sys2Proof/Machine/Frames.lean ====
section
/-! DEFINITION. The frames of the wire: the CRC-8 of R145, the judging of a command frame (R144), and the response frame
(R147, R154). -/

namespace Sys2Proof.Machine

/-- One of the eight shifts of R145. -/
def crcShift (v : Byte) : Byte := if v.msb then (v <<< 1) ^^^ 0x07#8 else v <<< 1

/-- R145 for one byte. -/
def crcByte (v b : Byte) : Byte :=
  crcShift (crcShift (crcShift (crcShift (crcShift (crcShift (crcShift (crcShift (v ^^^ b))))))))

/-- The CRC-8 over a run of bytes, from the initial value 0xFF (R145). -/
def crc8 (bytes : List Byte) : Byte := bytes.foldl crcByte 0xFF#8

/-- R144: the command of a good frame, `frame` being the bytes after the transaction code; none for a bad one. -/
def judgeFrame : List Byte → Option Command
  | opcode :: tag :: n :: rest =>
      if n.toNat ≤ 12 ∧ rest.length = n.toNat + 1
          ∧ rest.getLast? = some (crc8 (opcode :: tag :: n :: rest.take n.toNat)) then
        some ⟨opcode, tag, rest.take n.toNat⟩
      else none
  | _ => none

/-- The response to a bad frame: the tag and opcode bytes received, or 0 (R144). -/
def badFrameResponse (frame : List Byte) : Response :=
  { status := .badFrame, tag := frame[1]?.getD 0, opcode := frame[0]?.getD 0, payload := [] }

/-- The response frame that a fetch shifts out (R147, R154). -/
def Response.frame (r : Response) : List Byte :=
  let body := [r.status.code, r.tag, r.opcode] ++ byte1 r.payload.length ++ r.payload
  body ++ [crc8 body]

/-- What a fetch of an empty slot shifts out (R147). -/
def Response.nothing : Response := ⟨.none, 0, 0, []⟩

end Sys2Proof.Machine
end

