-- ==== Sys2Proof/WellFormed.lean ====
section
/-! DEFINITION. Which commands are well formed: a stretch of a transaction is not empty, and one that begins the
transaction has the code of its own row as its first byte, or none of the four codes (R142). Every other operand is kept
in range by its type. -/

namespace Sys2Proof

/-- The four transaction codes (R142). -/
def transactionCodes : List Byte := [0xC5, 0xF0, 0x3C, 0xA9]

/-- Whether a transaction whose first whole byte is `first` is one of the row with a code: it has that code, or, having
none of the four codes or no whole byte yet, it is no other row's. -/
def rowCarries (code : Byte) (first : Option Byte) : Bool :=
  match first with
  | none => true
  | some b => b == code || !transactionCodes.contains b

/-- Whether a stretch begins with the assertion of the select line. -/
def Stretch.selects : Stretch → Bool
  | .whole | .first => true
  | .inner | .last => false

/-- Whether a stretch ends with the deassertion of the select line. -/
def Stretch.deselects : Stretch → Bool
  | .whole | .last => true
  | .first | .inner => false

/-- Something happens in the stretch: an edge of the select line, or a byte. -/
def Stretch.notEmpty (part : Stretch) (bytes : List Byte) : Bool :=
  part.selects || part.deselects || !bytes.isEmpty

/-- A well-formed stretch of a transaction of the row with a code. -/
def Stretch.wellFormed (part : Stretch) (code : Byte) (bytes : List Byte) : Bool :=
  part.notEmpty bytes && (!part.selects || rowCarries code bytes.head?)

/-- The well-formed commands. -/
def Instr.wellFormed : Instr → Bool
  | .commandTransaction _ part bytes => part.wellFormed 0xC5#8 bytes
  | .fetch _ part bytes => part.wellFormed 0xF0#8 bytes
  | .statusTransaction _ part bytes => part.wellFormed 0x3C#8 bytes
  | .portReset _ part bytes => part.wellFormed 0xA9#8 bytes
  | .powerOnReset | .pinReset | .resetRelease _ _ _ _ | .derateEvent _ | .fltPinChange _ _ => true
  | .scanCycleStart | .channelConversionEnd _ _ | .railConversionEnd _ => true
  | .leaseTick _ | .leaseExpiry _ | .frameStart | .slotStart | .portSelectDeassertedAfterReset _ => true
  | .unknownOpcode | .openSession | .closeSession | .renew | .setLease | .status => true
  | .claim | .adjust | .release | .revoke | .queryClaim | .queryBudget | .queryChannel => true
  | .clearTrip | .softTrip | .takeNotice | .setBudget | .setScan | .setRail | .clearRail => true
  | .setChannelLoop | .setChannelLimits | .setGroup | .clearGroup | .setPins => true
  | .setQuota | .evict | .restart => true

end Sys2Proof
end

