-- ==== Sys2Proof/Machine/Wire.lean ====
section
/-! DEFINITION. Transactions on the ports (R142 to R149): what a port does as its select line is asserted, as each byte
of a transaction becomes whole, and as the line is deasserted; and the four rows, each a stretch of one transaction. A
port that has not yet seen its select line deasserted after a reset ignores its lines (R141). -/

namespace Sys2Proof.Machine

/-- Whether the port takes transactions (R141). -/
def State.takesTransactions (s : State) (p : Port) : Bool := !s.resetHeld && (s.port p).listening

/-! ### The assertion of the select line -/

/-- A transaction begins: the port forms its status byte now (R142). A line that is asserted already changes nothing. -/
def State.select (s : State) (p : Port) : State :=
  match (s.port p).transaction with
  | some _ => s
  | none => s.setPort p { s.port p with transaction := some ⟨s.statusByte p, [], []⟩, dataOut := [] }

/-! ### One byte -/

/-- What the port shifts out during the next byte: the status byte formed at the assertion during the first; after it, the
response frame in a fetch (R147), the status byte formed as the byte starts in a status transaction (R148), and 0x00
otherwise (R142). -/
def State.byteOut (s : State) (p : Port) (x : Transaction) : Byte :=
  match x.received with
  | [] => x.shown
  | code :: _ =>
    if code = 0xF0#8 then x.reply.head?.getD 0x00#8
    else if code = 0x3C#8 then s.statusByte p
    else 0x00#8

/-- The transaction after one more whole byte. -/
def Transaction.clocked (x : Transaction) (b : Byte) : Transaction :=
  { x with received := x.received ++ [b], reply := x.reply.drop 1 }

/-- The port after one more whole byte of its transaction, for which it shifted out `out`. -/
def PortState.clocked (y : PortState) (x : Transaction) (out b : Byte) : PortState :=
  { y with transaction := some (x.clocked b), dataOut := y.dataOut ++ [out] }

/-- A fetch is taken: the response leaves the slot, and a flag that the transaction's status byte showed is cleared; of an
empty slot the slot and flags are unchanged (R147). -/
def PortState.fetched (y : PortState) (x : Transaction) : PortState :=
  match y.response with
  | none => { y with transaction := some { x with reply := Response.nothing.frame } }
  | some r =>
    { y with
      response := none
      collided := y.collided && !showsCollided x.shown
      overwritten := y.overwritten && !showsOverwritten x.shown
      transaction := some { x with reply := r.frame } }

/-- A byte of a transaction becomes whole, and a fetch is taken as its code byte does (R142, R147). With the select line
deasserted, the clock and data-in are ignored. -/
def State.clockByte (s : State) (p : Port) (b : Byte) : State :=
  match (s.port p).transaction with
  | none => s
  | some x =>
    let y := (s.port p).clocked x (s.byteOut p x) b
    s.setPort p (if x.received = [] ∧ b = 0xF0#8 then y.fetched (x.clocked b) else y)

/-- Bytes of a transaction, one after another. -/
def State.clockBytes (s : State) (p : Port) (bytes : List Byte) : State := bytes.foldl (fun t b => t.clockByte p b) s

/-! ### The deassertion of the select line -/

/-- A good frame enters an EMPTY command slot, or is dropped with COLLIDED set (R146). -/
def PortState.receive (x : PortState) (c : Command) : PortState :=
  match x.command with
  | none => { x with command := some c }
  | some _ => { x with collided := true }

/-- The port judges a command frame (R144, R146). -/
def State.receiveFrame (s : State) (p : Port) (frame : List Byte) : State :=
  match judgeFrame frame with
  | some c => s.setPort p ((s.port p).receive c)
  | none => s.writeResponse p (badFrameResponse frame)

/-- What a port takes at the deassertion: a command frame (R144), a port reset that is the two bytes 0xA9 and 0x96 and
nothing more (R149), and nothing of any other transaction (R142). -/
def State.takeReceived (s : State) (p : Port) (received : List Byte) : State :=
  match received with
  | [] => s
  | code :: frame =>
    if code = 0xC5#8 then s.receiveFrame p frame
    else if received = [0xA9#8, 0x96#8] then s.resetPort p
    else s

/-- A transaction ends (R142). -/
def State.deselect (s : State) (p : Port) : State :=
  match (s.port p).transaction with
  | none => s
  | some x => (s.setPort p { s.port p with transaction := none }).takeReceived p x.received

/-! ### The rows -/

/-- The bytes that the port has received of its transaction in progress. -/
def State.receivedSoFar (s : State) (p : Port) : List Byte :=
  match (s.port p).transaction with
  | none => []
  | some x => x.received

/-- Whether the stretch is one of a transaction of the row with a code: the transaction's first byte is not another row's
(R142). -/
def State.carries (s : State) (p : Port) (code : Byte) (bytes : List Byte) : Bool :=
  rowCarries code (s.receivedSoFar p ++ bytes).head?

/-- What happens in a stretch, in its order. -/
def State.runStretch (s : State) (p : Port) (part : Stretch) (bytes : List Byte) : State :=
  let t := if part.selects then s.select p else s
  let u := t.clockBytes p bytes
  if part.deselects then u.deselect p else u

/-- A stretch at a port that takes transactions. A stretch of another row's transaction does not arise, and nothing happens
(notes/assumptions/6.md). -/
def State.stretch (s : State) (p : Port) (code : Byte) (part : Stretch) (bytes : List Byte) : State :=
  if s.takesTransactions p && s.carries p code bytes then s.runStretch p part bytes else s

/-- COMMAND_TRANSACTION (R146). -/
def execCommandTransaction (p : Port) (part : Stretch) (bytes : List Byte) (s : State) : Result :=
  .next (s.stretch p 0xC5#8 part bytes)

/-- FETCH (R147). -/
def execFetch (p : Port) (part : Stretch) (bytes : List Byte) (s : State) : Result :=
  .next (s.stretch p 0xF0#8 part bytes)

/-- STATUS_TRANSACTION (R148). -/
def execStatusTransaction (p : Port) (part : Stretch) (bytes : List Byte) (s : State) : Result :=
  .next (s.stretch p 0x3C#8 part bytes)

/-- PORT_RESET (R149). -/
def execPortReset (p : Port) (part : Stretch) (bytes : List Byte) (s : State) : Result :=
  .next (s.stretch p 0xA9#8 part bytes)

end Sys2Proof.Machine
end

