-- ==== Sys2Proof/Machine/Dispatch.lean ====
section
/-! DEFINITION. The dispatch: one arm for each command, each a direct call of its meaning. -/

namespace Sys2Proof.Machine

/-- A command's effect on everything but the queue. -/
def exec (i : Instr) (s : State) : Host.Outcome State Fault Refusal :=
  match i with
  | .powerOnReset => Sys2Proof.Machine.execPowerOnReset s
  | .pinReset => Sys2Proof.Machine.execPinReset s
  | .resetRelease supv1 supv0 flt derate => Sys2Proof.Machine.execResetRelease supv1 supv0 flt derate s
  | .derateEvent level => Sys2Proof.Machine.execDerateEvent level s
  | .fltPinChange pin level => Sys2Proof.Machine.execFltPinChange pin level s
  | .scanCycleStart => Sys2Proof.Machine.execScanCycleStart s
  | .channelConversionEnd ch input => Sys2Proof.Machine.execChannelConversionEnd ch input s
  | .railConversionEnd input => Sys2Proof.Machine.execRailConversionEnd input s
  | .leaseTick p => Sys2Proof.Machine.execLeaseTick p s
  | .leaseExpiry p => Sys2Proof.Machine.execLeaseExpiry p s
  | .frameStart => Sys2Proof.Machine.execFrameStart s
  | .slotStart => Sys2Proof.Machine.execSlotStart s
  | .commandTransaction p part bytes => Sys2Proof.Machine.execCommandTransaction p part bytes s
  | .fetch p part bytes => Sys2Proof.Machine.execFetch p part bytes s
  | .statusTransaction p part bytes => Sys2Proof.Machine.execStatusTransaction p part bytes s
  | .portReset p part bytes => Sys2Proof.Machine.execPortReset p part bytes s
  | .unknownOpcode => Sys2Proof.Machine.execUnknownOpcode s
  | .openSession => Sys2Proof.Machine.execOpenSession s
  | .closeSession => Sys2Proof.Machine.execCloseSession s
  | .renew => Sys2Proof.Machine.execRenew s
  | .setLease => Sys2Proof.Machine.execSetLease s
  | .status => Sys2Proof.Machine.execStatus s
  | .claim => Sys2Proof.Machine.execClaim s
  | .adjust => Sys2Proof.Machine.execAdjust s
  | .release => Sys2Proof.Machine.execRelease s
  | .revoke => Sys2Proof.Machine.execRevoke s
  | .queryClaim => Sys2Proof.Machine.execQueryClaim s
  | .queryBudget => Sys2Proof.Machine.execQueryBudget s
  | .queryChannel => Sys2Proof.Machine.execQueryChannel s
  | .clearTrip => Sys2Proof.Machine.execClearTrip s
  | .softTrip => Sys2Proof.Machine.execSoftTrip s
  | .takeNotice => Sys2Proof.Machine.execTakeNotice s
  | .setBudget => Sys2Proof.Machine.execSetBudget s
  | .setScan => Sys2Proof.Machine.execSetScan s
  | .setRail => Sys2Proof.Machine.execSetRail s
  | .clearRail => Sys2Proof.Machine.execClearRail s
  | .setChannelLoop => Sys2Proof.Machine.execSetChannelLoop s
  | .setChannelLimits => Sys2Proof.Machine.execSetChannelLimits s
  | .setGroup => Sys2Proof.Machine.execSetGroup s
  | .clearGroup => Sys2Proof.Machine.execClearGroup s
  | .setPins => Sys2Proof.Machine.execSetPins s
  | .setQuota => Sys2Proof.Machine.execSetQuota s
  | .evict => Sys2Proof.Machine.execEvict s
  | .restart => Sys2Proof.Machine.execRestart s
  | .portSelectDeassertedAfterReset p => Sys2Proof.Machine.execPortSelectDeassertedAfterReset p s

end Sys2Proof.Machine
end

