-- ==== Sys2Proof/Safety.lean ====
section
/-! DEFINITION. What counts as a safe run: which commands can arise in a state, and the invariants that the spec's
rules give the state between two steps. The statements of Certificates/Slice0/Obligations.lean are in these terms. -/

namespace Sys2Proof.Machine

/-! ### Which commands arise -/

/-- The opcode that an executor's row takes (R157 to R169); none for a row that is no command of one opcode. -/
def opcodeOf : Instr → Option Byte
  | .powerOnReset | .pinReset | .resetRelease _ _ _ _ | .derateEvent _ | .fltPinChange _ _ | .scanCycleStart => none
  | .channelConversionEnd _ _ | .railConversionEnd _ | .leaseTick _ | .leaseExpiry _ | .frameStart => none
  | .slotStart | .commandTransaction _ _ _ | .fetch _ _ _ | .statusTransaction _ _ _ | .portReset _ _ _ => none
  | .unknownOpcode | .portSelectDeassertedAfterReset _ => none
  | .openSession => some 0x01
  | .closeSession => some 0x02
  | .renew => some 0x03
  | .setLease => some 0x04
  | .status => some 0x05
  | .claim => some 0x10
  | .adjust => some 0x11
  | .release => some 0x12
  | .revoke => some 0x4A
  | .queryClaim => some 0x13
  | .queryBudget => some 0x30
  | .queryChannel => some 0x20
  | .clearTrip => some 0x21
  | .softTrip => some 0x22
  | .takeNotice => some 0x31
  | .setBudget => some 0x40
  | .setScan => some 0x43
  | .setRail => some 0x44
  | .clearRail => some 0x45
  | .setChannelLoop => some 0x41
  | .setChannelLimits => some 0x42
  | .setGroup => some 0x46
  | .clearGroup => some 0x47
  | .setPins => some 0x48
  | .setQuota => some 0x49
  | .evict => some 0x4B
  | .restart => some 0x4C

/-- Whether the executor's next waiting command has an opcode. -/
def State.nextIs (s : State) (opcode : Option Byte) : Bool :=
  match s.nextWaiting, opcode with
  | some (_, c), some o => decide (c.opcode = o)
  | _, _ => false

/-- Whether the executor's next waiting command has an opcode that is no command's (R152). -/
def State.nextIsUnknown (s : State) : Bool :=
  match s.nextWaiting with
  | some (_, c) => !knownOpcodes.contains c.opcode
  | none => false

/-- Whether a master can make a stretch of a row's transaction: it has something in it, and it begins with the assertion
of the select line exactly where no transaction is in progress (R142). -/
def State.stretchArises (s : State) (p : Port) (code : Byte) (part : Stretch) (bytes : List Byte) : Bool :=
  s.takesTransactions p && s.carries p code bytes && part.notEmpty bytes &&
    part.selects == (s.port p).transaction.isNone

/-- Whether the part can present a command in a state: its clocks keep the order of R87 and R170, its pins change level,
its timers run, its ports listen, and the executor takes the next waiting command. The model takes every command in every
state; a run of commands that all arise is a run of the part (notes/assumptions/6.md). -/
def State.arises (s : State) : Instr → Bool
  | .powerOnReset | .pinReset => true
  | .resetRelease _ _ _ _ => s.resetHeld
  | .derateEvent level => !s.resetHeld && level != s.budget.derateLevel
  | .fltPinChange pin level => !s.resetHeld && level != s.trip.fltLevel[pin]
  | .scanCycleStart => !s.resetHeld && s.scan.position == 13
  | .channelConversionEnd ch _ => !s.resetHeld && s.scan.position == ch.val
  | .railConversionEnd _ => !s.resetHeld && s.scan.position == 12
  | .leaseTick p => s.isOpen p && decide (1 < (s.session p).remaining)
  | .leaseExpiry p => s.isOpen p && (s.session p).remaining == 1
  | .frameStart => !s.resetHeld && s.frameSlot == 64
  | .slotStart => !s.resetHeld && decide (s.frameSlot < 64)
  | .commandTransaction p part bytes => s.stretchArises p 0xC5#8 part bytes
  | .fetch p part bytes => s.stretchArises p 0xF0#8 part bytes
  | .statusTransaction p part bytes => s.stretchArises p 0x3C#8 part bytes
  | .portReset p part bytes => s.stretchArises p 0xA9#8 part bytes
  | .portSelectDeassertedAfterReset p => !s.resetHeld && !(s.port p).listening
  | .unknownOpcode => s.nextIsUnknown
  | .openSession => s.nextIs (opcodeOf .openSession)
  | .closeSession => s.nextIs (opcodeOf .closeSession)
  | .renew => s.nextIs (opcodeOf .renew)
  | .setLease => s.nextIs (opcodeOf .setLease)
  | .status => s.nextIs (opcodeOf .status)
  | .claim => s.nextIs (opcodeOf .claim)
  | .adjust => s.nextIs (opcodeOf .adjust)
  | .release => s.nextIs (opcodeOf .release)
  | .revoke => s.nextIs (opcodeOf .revoke)
  | .queryClaim => s.nextIs (opcodeOf .queryClaim)
  | .queryBudget => s.nextIs (opcodeOf .queryBudget)
  | .queryChannel => s.nextIs (opcodeOf .queryChannel)
  | .clearTrip => s.nextIs (opcodeOf .clearTrip)
  | .softTrip => s.nextIs (opcodeOf .softTrip)
  | .takeNotice => s.nextIs (opcodeOf .takeNotice)
  | .setBudget => s.nextIs (opcodeOf .setBudget)
  | .setScan => s.nextIs (opcodeOf .setScan)
  | .setRail => s.nextIs (opcodeOf .setRail)
  | .clearRail => s.nextIs (opcodeOf .clearRail)
  | .setChannelLoop => s.nextIs (opcodeOf .setChannelLoop)
  | .setChannelLimits => s.nextIs (opcodeOf .setChannelLimits)
  | .setGroup => s.nextIs (opcodeOf .setGroup)
  | .clearGroup => s.nextIs (opcodeOf .clearGroup)
  | .setPins => s.nextIs (opcodeOf .setPins)
  | .setQuota => s.nextIs (opcodeOf .setQuota)
  | .evict => s.nextIs (opcodeOf .evict)
  | .restart => s.nextIs (opcodeOf .restart)

/-! ### The executor's step, as the statements speak of it -/

/-- The executor takes the port's command next (R151). -/
abbrev Takes (s : State) (p : Port) (c : Command) : Prop := s.nextWaiting = some (p, c)

/-- The executor takes a command of one opcode next, and its port's session is OPEN (R117, R151). -/
structure TakenOpen (s : State) (p : Port) (c : Command) (opcode : Byte) : Prop where
  taken : Takes s p c
  opcode : c.opcode = opcode
  opened : (s.session p).state = .opened

/-- `TakenOpen` for a supervisor-only command from the supervisor port (R152). -/
structure TakenSupervisor (s : State) (p : Port) (c : Command) (opcode : Byte) : Prop extends
    TakenOpen s p c opcode where
  supervisor : (s.session p).supervisor = true

/-- The port's side of an executor's step: the pointer names the port, its command slot is EMPTY, and its response slot
holds a response with the command's tag and opcode, OVERWRITTEN being set where that replaced another (R150, R151). -/
def State.answered (u : State) (p : Port) (c : Command) (st : Status) (payload : List Byte) : State :=
  { u with
    pointer := p
    ports := u.ports.set p
      { u.port p with
        command := none
        response := some ⟨st, c.tag, c.opcode, payload⟩
        overwritten := (u.port p).overwritten || (u.port p).response.isSome } }

/-- A refusal: nothing changes but the port's slots and flags and the pointer (R152). -/
def State.refused (s : State) (p : Port) (c : Command) (st : Status) : State := s.answered p c st []

/-- The sender of a supervisor-only command that passes checks 3 and 4 (R117, R152). -/
abbrev SupervisorOpen (s : State) (p : Port) : Prop :=
  (s.session p).state = .opened ∧ (s.session p).supervisor = true

/-- Check 2 of R152, for each opcode: the payload has the command's length and every operand its range (R155). -/
def operandsPass (opcode : Byte) (payload : List Byte) : Bool :=
  if opcode = 0x01#8 ∨ opcode = 0x04#8 then (leaseOperand payload).isSome
  else if opcode = 0x10#8 then (claimOperands payload).isSome
  else if opcode = 0x11#8 then (adjustOperands payload).isSome
  else if opcode = 0x12#8 ∨ opcode = 0x13#8 ∨ opcode = 0x4A#8 then (handleOperand payload).isSome
  else if opcode = 0x20#8 then (queryChannelOperands payload).isSome
  else if opcode = 0x21#8 then (channelOperand payload).isSome
  else if opcode = 0x22#8 then (flagOperand payload).isSome
  else if opcode = 0x40#8 then (budgetOperands payload).isSome
  else if opcode = 0x41#8 then (loopOperands payload).isSome
  else if opcode = 0x42#8 then (limitsOperands payload).isSome
  else if opcode = 0x43#8 then (scanOperand payload).isSome
  else if opcode = 0x44#8 then (railOperands payload).isSome
  else if opcode = 0x46#8 then (groupOperands payload).isSome
  else if opcode = 0x47#8 then (groupOperand payload).isSome
  else if opcode = 0x48#8 then (pinOperands payload).isSome
  else if opcode = 0x49#8 then (quotaOperands payload).isSome
  else if opcode = 0x4B#8 then (portOperand payload).isSome
  else payload.isEmpty

/-- The supervisor-only opcodes: 0x40 to 0x4C (R166 to R169, and REVOKE by R160). -/
def supervisorOnly (opcode : Byte) : Bool := decide (0x40 ≤ opcode.toNat ∧ opcode.toNat ≤ 0x4C)

/-! ### Codes and fields, as the statements speak of them -/

/-- The table of R153. -/
def statusNumber : Status → Byte
  | .ok => 0
  | .none => 1
  | .badFrame => 2
  | .unknown => 3
  | .badOperand => 4
  | .noSession => 5
  | .lapsed => 6
  | .notSupervisor => 7
  | .state => 8
  | .full => 9
  | .quota => 10
  | .duplicate => 11
  | .cls => 12
  | .disabled => 13
  | .overRating => 14
  | .tooLarge => 15
  | .stale => 16
  | .notOwner => 17
  | .short => 18
  | .channelBusy => 19
  | .stillHigh => 20
  | .stillActive => 21
  | .empty => 22

/-- The kinds of R165's table. -/
def kindNumber : Kind → Nat
  | .granted => 1
  | .settled => 2
  | .limited => 3
  | .shed => 4
  | .revoked => 5
  | .held => 6
  | .resumed => 7
  | .tripped => 8
  | .budget => 9
  | .leaseWarn => 10
  | .overflow => 11

/-- The states of R163's table. -/
def loopNumber : LoopState → Nat
  | .idle => 0
  | .ramp => 1
  | .bisect => 2
  | .track => 3
  | .limited => 4
  | .held => 5
  | .releasing => 6
  | .tripped => 7

/-- The vote directions of R163's table. -/
def directionNumber : Direction → Nat
  | .none => 0
  | .up => 1
  | .down => 2

/-- The group states of R157's table. -/
def groupNumber : GroupState → Nat
  | .idle => 0
  | .active => 1
  | .latched => 2

/-- The session states of R157's table. -/
def sessionNumber : SessionState → Nat
  | .closed => 0
  | .opened => 1
  | .lapsed => 2

/-- The reset causes of R156. -/
def causeNumber : ResetCause → Nat
  | .powerOn => 0
  | .pin => 1
  | .restart => 2

/-- The port codes of R155. -/
def portNumber : Port → Nat
  | .A => 0
  | .B => 1
  | .C => 2
  | .D => 3

/-- 1 for yes or set, 0 for no or clear (R155). -/
def flagNumber (b : Bool) : Nat := if b then 1 else 0

/-- A field of so many bytes, most significant first (R155). -/
def field : Nat → Nat → List Byte
  | 0, _ => []
  | width + 1, n => BitVec.ofNat 8 (n / 256 ^ width) :: field width n

/-- A handle's two bytes: its generation and its slot (R155). -/
def handleBytes (h : Handle) : List Byte := [h.gen, BitVec.ofNat 8 h.slot.val]

/-- A handle's two bytes, or 0xFFFF where it is absent (R155). -/
def handleBytesOr : Option Handle → List Byte
  | some h => handleBytes h
  | none => [0xFF#8, 0xFF#8]

/-- How far behind the pointer a port stands in the round: 0 for the port after it, 3 for the pointer itself (R151). -/
def roundDistance (pointer p : Port) : Nat := (portNumber p + 3 - portNumber pointer) % 4

/-! ### The port's bytes, as the statements speak of them -/

/-- The port takes transactions: no reset is held, and it has seen its select line deasserted since the last (R141). -/
structure Listens (s : State) (p : Port) : Prop where
  released : s.resetHeld = false
  listening : (s.port p).listening = true

/-- A port's state is replaced, and nothing else. -/
def withPort (s : State) (p : Port) (y : PortState) : State := { s with ports := s.ports.set p y }

/-- The length byte of a frame, 0 when there is none. -/
def frameLength (frame : List Byte) : Nat := (frame[2]?.getD 0).toNat

/-- None of the four cases of R144 holds: the CRC byte is whole, n is at most 12, no byte follows the CRC byte, and the
CRC-8 agrees. -/
def goodFrame (frame : List Byte) : Bool :=
  decide (frameLength frame ≤ 12 ∧ frame.length = frameLength frame + 4 ∧
    frame[frameLength frame + 3]? = some (crc8 (frame.take (frameLength frame + 3))))

/-- The opcode, tag and payload of a frame (R154). -/
def frameCommand (frame : List Byte) : Command :=
  ⟨frame[0]?.getD 0, frame[1]?.getD 0, (frame.drop 3).take (frameLength frame)⟩

/-- The frame of a command, as a master sends it after the transaction code (R154). -/
def Command.frame (c : Command) : List Byte :=
  let body := c.opcode :: c.tag :: BitVec.ofNat 8 c.payload.length :: c.payload
  body ++ [crc8 body]

/-- What a port shifts out during so many bytes: those given, and then 0x00 (R142). -/
def thenZeros (given : List Byte) (n : Nat) : List Byte := (given ++ List.replicate n 0x00#8).take n

/-- What a transaction of these bytes shifts out where no rule gives more: the status byte formed at its assertion, and
then 0x00 (R142). -/
def statusThenZeros (s : State) (p : Port) (bytes : List Byte) : List Byte :=
  thenZeros [s.statusByte p] bytes.length

/-- Whether a transaction's first byte is none of the four codes, or not whole (R142). -/
def codeless (received : List Byte) : Prop :=
  ∀ code ∈ [0xC5#8, 0xF0#8, 0x3C#8, 0xA9#8], received.head? ≠ some code

/-- A port after a command frame: a good one enters an EMPTY slot, or is dropped with COLLIDED set; a bad one is answered
BAD_FRAME with the tag and opcode bytes received, or 0 (R144, R146, R150). -/
def PortState.afterFrame (y : PortState) (frame : List Byte) : PortState :=
  if goodFrame frame then
    match y.command with
    | none => { y with command := some (frameCommand frame) }
    | some _ => { y with collided := true }
  else
    { y with
      response := some ⟨.badFrame, frame[1]?.getD 0, frame[0]?.getD 0, []⟩
      overwritten := y.overwritten || y.response.isSome }

/-- A port after a fetch whose transaction's status byte was `b` (R147). -/
def PortState.afterFetch (y : PortState) (b : Byte) : PortState :=
  match y.response with
  | none => y
  | some _ =>
    { y with response := none, collided := y.collided && !b.getLsbD 3, overwritten := y.overwritten && !b.getLsbD 2 }

/-- The response frame that a fetch shifts out: that of the slot's response, or that of NONE (R147). -/
def PortState.fetchFrame (y : PortState) : List Byte := (y.response.getD ⟨.none, 0, 0, []⟩).frame

/-- A stretch ends a port reset transaction, the port having shifted out `out` in all: the whole transaction in one stretch,
or the deassertion after its two bytes (R149). -/
def EndsPortReset (s : State) (p : Port) (part : Stretch) (bytes out : List Byte) : Prop :=
  ((s.port p).transaction = none ∧ part = .whole ∧ bytes = [0xA9#8, 0x96#8] ∧
    out = statusThenZeros s p [0xA9#8, 0x96#8]) ∨
  ((s.port p).transaction.map Transaction.received = some [0xA9#8, 0x96#8] ∧ part = .last ∧ bytes = [] ∧
    out = (s.port p).dataOut)

/-! ### Measurements, as the statements speak of them -/

/-- The end of a conversion completes the channel's window and delivers the value `m` (R89, R90). -/
structure Delivers (s : State) (c : Channel) (input : Int) (m : Nat) : Prop where
  running : s.resetHeld = false
  complete : (s.scan.windows[c]).count + 1 = (s.channel c).config.averaging
  value : m =
    min 4095 (((s.scan.windows[c]).sum + min 4095 input.toNat) / (s.channel c).config.averaging
      * (s.channel c).config.gain / 1024)

/-- The strike count after a measurement that does not trip the channel (R78). -/
def strikesNow (r : ChannelRecord) (m : Nat) : Nat := if r.target + r.config.guard < m then r.strikes + 1 else 0

/-- The guard does not trip the channel on `m` (R78). -/
abbrev NoTrip (r : ChannelRecord) (m : Nat) : Prop := m ≤ r.target + r.config.guard ∨ r.strikes < 2

/-- The scanner after the delivery: the channel's window has begun anew, and nothing else of it but the schedule has
moved (R90). -/
def windowDone (s : State) (c : Channel) : Scanner :=
  { s.scan with windows := s.scan.windows.set c ⟨0, 0⟩, position := c.val + 1 }

/-- A measurement action that concerns its own channel alone: the window begins anew, the record becomes `r`, the notice
queues become `notices`, and nothing else changes. -/
def afterMeasurement (s : State) (c : Channel) (r : ChannelRecord) (notices : PerPort NoticeQueue) : State :=
  { s with scan := windowDone s c, channels := s.channels.set c r, notices := notices }

/-- The notice queues after a notice for one port, made where its session is OPEN (R133). -/
def withNotice (s : State) (q : Port) (n : Notice) : PerPort NoticeQueue :=
  if (s.session q).state = .opened then s.notices.set q ((s.noticesOf q).put n) else s.notices

/-- A notice about a claim or a channel (R132), stamped with the scan cycle counter (R97). -/
def noticeOf (s : State) (k : Kind) (c : Channel) (h : Option Handle) (v : Option Nat) : Notice :=
  { kind := k, stamp := s.scan.counter, channel := some c, handle := h, value := v, derate := none,
    kindsLost := 0#16, lostCount := 0 }

/-- A port's notice queue after these notices, one after another, are made for it: unchanged where its session is not OPEN
(R133, R134). -/
def State.noticesAfter (s : State) (q : Port) (l : List Notice) : NoticeQueue :=
  if (s.session q).state = .opened then l.foldl NoticeQueue.put (s.noticesOf q) else s.noticesOf q

/-- The notice queues after a loop's notice for the holder's port (R62, R85). -/
def withHolderNotice (s : State) (k : Kind) (c : Channel) (v : Option Nat) : PerPort NoticeQueue :=
  match s.holderPort c with
  | some q => withNotice s q (noticeOf s k c (s.channel c).holder v)
  | none => s.notices

/-- L and the run after an adjustment in a direction, by the table of R59. -/
def adapted (r : ChannelRecord) (d : Direction) : Nat × Nat :=
  if r.lastAdjust = .none then (r.confirm, 1)
  else if r.lastAdjust = d then
    if r.run + 1 < 4 then (r.confirm, r.run + 1) else (max 2 (r.confirm / 2), 0)
  else (min 32 (2 * r.confirm), 0)

/-- The vote count that a vote in a direction leads to (R58). -/
def votesNow (r : ChannelRecord) (d : Direction) : Nat :=
  if r.voteDir = d ∧ 0 < r.voteCount then r.voteCount + 1 else 1

/-! ### Groups, as the statements speak of them -/

/-- A group's state after an event or a SET GROUP, from its state before, its mode and its input condition as they now
stand: the tables of R104 and R108. -/
def tableState : GroupState → GroupMode → Bool → GroupState
  | _, _, true => .active
  | .active, .follow, false => .idle
  | .active, .latch, false => .latched
  | .idle, _, false => .idle
  | .latched, _, false => .latched

/-- A group's input condition: at least one input of its input set is asserted (R104). -/
def conditionOf (g : Group) (inputs : BitVec 10) : Bool := decide (∃ k : Fin 10, g.inputs[k] = true ∧ inputs[k] = true)

/-- Whether some group that is ACTIVE or LATCHED targets the channel (R106). -/
def heldBy (groups : Vector Group 4) (c : Channel) : Bool :=
  decide (∃ g : Fin 4, groups[g].state ≠ .idle ∧ groups[g].targets[c] = true)

/-- Whether some group is ACTIVE or LATCHED (R107). -/
def someGroupHolds (groups : Vector Group 4) : Bool := decide (∃ g : Fin 4, groups[g].state ≠ .idle)

/-! ### Claims and sessions, as the statements speak of them -/

/-- How many slots hold a record of the port (R5). -/
def State.recordsOf (s : State) (p : Port) : Nat :=
  (allSlots.filter fun i => decide ((s.record i).map Claim.port = some p)).length

/-- A slot is freed: no record, the next generation, and one record fewer for its port (R2, R5). -/
def withSlotFreed (s : State) (i : Fin 24) (r : Claim) : State :=
  { s with slots := s.slots.set i ⟨(s.slot i).gen + 1#8, none⟩, counts := s.counts.set r.port (s.count r.port - 1) }

/-- The granted sum is lower by an amount (R25). -/
def withGrantedLowered (s : State) (amount : Nat) : State :=
  { s with budget := { s.budget with granted := s.budget.granted - amount } }

/-- A channel whose grant has ended with drive above 0: it winds down under a release amount, which joins the releasing
sum (R26, R74). -/
def withWindDown (s : State) (c : Channel) (amount : Nat) : State :=
  { s with
    channels := s.channels.set c { s.channel c with state := .releasing, holder := none, target := amount }
    releases := s.releases.set c amount
    budget := { s.budget with releasing := s.budget.releasing + amount } }

/-- A channel record that has entered IDLE (R42, R78). -/
def ChannelRecord.idled (r : ChannelRecord) : ChannelRecord :=
  { r with state := .idle, drive := 0, target := 0, holder := none, strikes := 0 }

/-- A channel whose grant has ended in HELD or at drive 0: IDLE at once, with no release amount left (R28, R71, R74). -/
def withIdled (s : State) (c : Channel) : State :=
  { s with channels := s.channels.set c (s.channel c).idled, releases := s.releases.set c 0 }

/-- What ends a grant on a channel, for any reason (R74, R75): its wind-down from a settle state with drive above 0, and
IDLE at once otherwise. -/
def withGrantEnded (s : State) (c : Channel) (amount : Nat) : State :=
  if (s.channel c).state.settling ∧ 0 < (s.channel c).drive then withWindDown s c amount else withIdled s c

/-- A record freed as RELEASE frees it (R14). -/
def withClaimEnded (s : State) (i : Fin 24) (r : Claim) : State :=
  match r.state with
  | .pending => withSlotFreed s i r
  | .granted => withGrantEnded (withGrantedLowered (withSlotFreed s i r) r.amount) r.channel r.amount

/-- A slot's record is GRANTED on a channel in a granted state, and no other record is GRANTED there. -/
structure HoldsChannel (s : State) (i : Fin 24) (r : Claim) : Prop where
  state : (s.channel r.channel).state.grantedState = true
  alone : ∀ j, j ≠ i → s.recordIs .granted j = true → (s.record j).map Claim.channel ≠ some r.channel

/-- The release amount under which a record's channel winds down when its grant ends: its amount from a settle state with
drive above 0, and none otherwise (R26, R74). -/
def windDownOf (s : State) (r : Claim) : Nat :=
  if (s.channel r.channel).state.settling = true ∧ 0 < (s.channel r.channel).drive then r.amount else 0

/-- The sum of a number of each record over the slots that `chosen` takes. -/
def State.sumOver (s : State) (chosen : Fin 24 → Bool) (f : Claim → Nat) : Nat :=
  ((List.finRange 24).map fun i => if chosen i = true then ((s.record i).map f).getD 0 else 0).sum

/-- Whether a slot holds a GRANTED record of the port. -/
def State.grantedTo (s : State) (p : Port) (i : Fin 24) : Bool :=
  s.recordIs .granted i && decide ((s.record i).map Claim.port = some p)

/-- What the notices of a kind say to a port of some slots' records, in the order of the list: each names the record's
channel and handle, and a value (R31, R34, R132). -/
def claimNotices (s : State) (k : Kind) (value : Claim → Option Nat) (l : List (Fin 24)) (q : Port) : List Notice :=
  l.filterMap fun i =>
    match s.record i with
    | some r => if r.port = q then some (noticeOf s k r.channel (some ⟨(s.slot i).gen, i⟩) (value r)) else none
    | none => none

/-- The slots of a list stand in wait order (R10). -/
def InWaitOrder (s : State) (l : List (Fin 24)) : Prop :=
  l.Pairwise fun i j => ∀ r q, s.record i = some r → s.record j = some q → r.notBehind q = true

/-- A record as it is but for its claim state. -/
def Claim.upToState (r : Claim) : Claim := { r with state := .pending }

/-- A record as it is but for its claim state and its shed count. -/
def Claim.upToShed (r : Claim) : Claim := { r with state := .pending, shed := 0 }

/-- What the allocator's part in a session's end leaves before its pass (R17): each slot that held a record of the port is
free at the next generation, and no other slot moves; each grant that the port held ends, its channel winding down or
IDLE; no other channel and no other release amount moves; the granted sum is lower by the amounts that were granted, and
the releasing sum higher by those that wind down. -/
structure ClaimsReclaimed (s u : State) (p : Port) : Prop where
  slots : ∀ i, u.slot i =
    if (s.record i).map Claim.port = some p then ⟨(s.slot i).gen + 1#8, none⟩ else s.slot i
  count : u.count p = s.count p - s.recordsOf p
  counts : ∀ q, q ≠ p → u.count q = s.count q
  ended : ∀ i r, s.record i = some r → r.port = p → r.state = .granted → HoldsChannel s i r →
    u.channel r.channel = (withGrantEnded s r.channel r.amount).channel r.channel ∧
      u.releaseOf r.channel = (withGrantEnded s r.channel r.amount).releaseOf r.channel
  others : ∀ c, (∀ i, s.grantedTo p i = true → (s.record i).map Claim.channel ≠ some c) →
    u.channel c = s.channel c ∧ u.releaseOf c = s.releaseOf c
  granted : u.budget.granted = s.budget.granted - s.sumOver (s.grantedTo p) Claim.amount
  releasing : (∀ i r, s.record i = some r → s.grantedTo p i = true → HoldsChannel s i r) →
    u.budget.releasing = s.budget.releasing + s.sumOver (s.grantedTo p) (windDownOf s)
  rest : u = { s with slots := u.slots, counts := u.counts, channels := u.channels, releases := u.releases
                      budget := { s.budget with granted := u.budget.granted, releasing := u.budget.releasing } }

/-- The whole of a session's end, from what its reclaim left (R17, R111, R123, R139): a pass runs; a set soft bit is cleared
and its fall is taken as an input event; the port's notice queue is emptied; and the session record takes its ended
values. -/
def sessionEnd (s u : State) (p : Port) (result : SessionState) : State :=
  let passed := u.allocationPass
  let fallen :=
    if (s.session p).soft = true then
      State.inputEvent { passed with sessions := s.sessions.set p { s.session p with soft := false } } (.soft p) false
    else passed
  { fallen with
    notices := fallen.notices.set p ⟨[], 0#16, 0, false⟩
    sessions := s.sessions.set p
      { s.session p with state := result, current := none, next := none, remaining := 0, warned := false
                         soft := false } }

/-- What the end of a port's OPEN session leaves (R17, R111, R123, R139): the whole of it as `sessionEnd` gives it; and,
of that, the session record's ended values, with its quota, class floor and supervisor flag kept; an empty notice queue;
no record of the port, each slot that held one being free at the next generation; every other record kept but for a grant;
the channels' configurations and trip owners kept; the soft input deasserted and every other input kept, the groups and
FAULT following them where it fell; and, but for what the reclaim and the fall of the soft input change, all else as it
was. -/
structure SessionEnded (s t : State) (p : Port) (result : SessionState) : Prop where
  whole : ∃ u, ClaimsReclaimed s u p ∧ t = sessionEnd s u p result
  session : t.sessions = s.sessions.set p
    { s.session p with state := result, current := none, next := none, remaining := 0, warned := false, soft := false }
  notices : t.noticesOf p = ⟨[], 0#16, 0, false⟩
  freed : ∀ i, (s.record i).map Claim.port = some p → t.slot i = ⟨(s.slot i).gen + 1#8, none⟩
  kept : ∀ i, (s.record i).map Claim.port ≠ some p →
    (t.slot i).gen = (s.slot i).gen ∧ (t.record i).map Claim.upToState = (s.record i).map Claim.upToState
  count : s.count p = s.recordsOf p → t.count p = 0
  counts : ∀ q, q ≠ p → t.count q = s.count q
  config : ∀ c, (t.channel c).config = (s.channel c).config ∧ (t.channel c).tripOwner = (s.channel c).tripOwner
  softClear : (s.session p).soft = false → t.trip = s.trip
  softSet : (s.session p).soft = true →
    (∀ j, t.input j = if j = .soft p then false else s.input j) ∧
    (∀ g, (t.group g).state =
      tableState (s.group g).state (s.group g).mode (conditionOf (s.group g) t.trip.inputs)) ∧
    t.trip.fault = someGroupHolds t.trip.groups
  groups : t.trip = { s.trip with groups := t.trip.groups, inputs := t.trip.inputs, fault := t.trip.fault }
  groupConfig : ∀ g, (t.group g).inputs = (s.group g).inputs ∧ (t.group g).targets = (s.group g).targets ∧
    (t.group g).mode = (s.group g).mode
  budget : t.budget = { s.budget with granted := t.budget.granted, releasing := t.budget.releasing }
  rest : t = { s with slots := t.slots, counts := t.counts, budget := t.budget, releases := t.releases,
                      channels := t.channels, trip := t.trip, sessions := t.sessions, notices := t.notices }

/-- A port whose session ends by expiry, EVICT or another port's RESTART: a waiting command is discarded and answered
LAPSED, and the port is as it was otherwise (R125). -/
def waitingDiscarded (x : PortState) : PortState :=
  match x.command with
  | none => x
  | some c =>
    { x with command := none, response := some ⟨.lapsed, c.tag, c.opcode, []⟩,
             overwritten := x.overwritten || x.response.isSome }

/-! ### HOLD and UNHOLD, as the statements speak of them -/

/-- Whether the forming of the hold attributes ends a wind-down (R70, R105). -/
def endsWindDown (s : State) (groups : Vector Group 4) : Bool :=
  decide (∃ c : Channel, heldBy groups c = true ∧ (s.channel c).hold = false ∧ (s.channel c).state = .releasing)

/-- A channel record when its hold attribute rises (R69, R70). -/
def ChannelRecord.whenHeld (r : ChannelRecord) : ChannelRecord :=
  match r.state with
  | .ramp | .bisect | .track | .limited => { r with hold := true, state := .held, drive := 0, strikes := 0 }
  | .releasing => { r.idled with hold := true }
  | .idle | .held | .tripped => { r with hold := true }

/-- A channel record when its hold attribute falls (R72). -/
def ChannelRecord.whenResumed (r : ChannelRecord) : ChannelRecord :=
  match r.state with
  | .held =>
    { r with hold := false, state := .ramp, drive := min r.config.start r.config.ceiling, lastBelow := 0, lo := 0,
             hi := 0, voteDir := .none, voteCount := 0, confirm := 2, run := 0, lastAdjust := .none, strikes := 0,
             settled := false }
  | .idle | .ramp | .bisect | .track | .limited | .releasing | .tripped => { r with hold := false }

/-- The group that a HOLD names: the lowest-numbered one that holds the channel now and did not before the action (R106). -/
def namedGroup (before after : Vector Group 4) (c : Channel) : Option Nat :=
  ((List.finRange 4).find? fun g =>
    decide ((after[g].state ≠ .idle ∧ after[g].targets[c] = true) ∧
      ¬ (before[g].state ≠ .idle ∧ before[g].targets[c] = true))).map Fin.val

/-- The notice that the forming of a channel's hold attribute makes for a port, the holder's: HELD with the group named, in
a settle state where the attribute rises, and RESUMED, in HELD where it falls (R69, R72, R85, R132). -/
def holdNotice (s : State) (after : Vector Group 4) (q : Port) (c : Channel) : List Notice :=
  if s.holderPort c ≠ some q then []
  else if heldBy after c = true ∧ (s.channel c).hold = false ∧ (s.channel c).state.settling = true then
    [noticeOf s .held c (s.channel c).holder (namedGroup s.trip.groups after c)]
  else if heldBy after c = false ∧ (s.channel c).hold = true ∧ (s.channel c).state = .held then
    [noticeOf s .resumed c (s.channel c).holder none]
  else []

/-- The groups agree with the inputs, the hold attributes with the groups, and FAULT with the groups (R104, R106, R107). -/
structure TripUnitSettled (s : State) : Prop where
  groups : ∀ g, (s.group g).state = tableState (s.group g).state (s.group g).mode (conditionOf (s.group g) s.trip.inputs)
  holds : ∀ c, (s.channel c).hold = heldBy s.trip.groups c
  fault : s.trip.fault = someGroupHolds s.trip.groups

/-! ### Drive modulators, as the statements speak of them -/

/-- A modulator after so many slot starts. -/
def Modulator.after (x : Modulator) : Nat → Modulator
  | 0 => x
  | n + 1 => (x.after n).startSlot

/-- The clocks for which the pin is high over the next so many slots (R171). -/
def Modulator.highTime (x : Modulator) : Nat → Nat
  | 0 => 0
  | n + 1 => x.highTime n + (x.after (n + 1)).high

/-- How many of the next so many slots are extended (R171). -/
def Modulator.extendedSlots (x : Modulator) : Nat → Nat
  | 0 => 0
  | n + 1 => x.extendedSlots n + (if (x.after (n + 1)).high = x.level / 64 + 1 then 1 else 0)

/-! ### The initial values -/

/-- The values that power-on reset and pin reset give every block (R18, R41, R67, R98, R100, R114, R115, R140, R141,
R151, R170), every pin low (R173). -/
structure InitialValues (t : State) : Prop where
  slots : ∀ i, t.slot i = ⟨0#8, none⟩
  stamp : t.stamp = 0
  counts : ∀ p, t.count p = 0
  budgets : t.budget.normal = 0 ∧ t.budget.derated = 0 ∧ t.budget.effective = 0
  sums : t.budget.granted = 0 ∧ t.budget.releasing = 0
  deratePolarity : t.budget.deratePolarity = .activeLow
  releases : ∀ c, t.releaseOf c = 0
  channels : ∀ c, t.channel c =
    { state := .idle, drive := 0, target := 0, holder := none, hold := false, lastBelow := 0, lo := 0, hi := 0,
      voteDir := .none, voteCount := 0, confirm := 2, run := 0, lastAdjust := .none, strikes := 0, settled := false,
      measured := 0, tripOwner := none, tripValue := 0,
      config := { enable := true, start := 256, rampStep := 64, downStep := 128, deadband := 2, averaging := 1,
                  rating := 200, ceiling := 2048, guard := 40, gain := 1024 } }
  period : t.scan.period = 4 ∧ t.scan.pendingPeriod = none
  windows : ∀ c : Channel, t.scan.windows[c] = ⟨0, 0⟩
  rail : t.scan.railLimit = 0 ∧ t.scan.railGain = 1024 ∧ t.scan.railValue = 0 ∧ t.scan.railFlag = false
  counter : t.scan.counter = 0#16
  groups : ∀ g, t.group g = ⟨0#10, 0#12, .follow, .idle⟩
  fltPolarity : ∀ i : FltPin, t.trip.fltPolarity[i] = .activeLow
  inputs : t.input .rail = false ∧ t.input .tripany = false ∧ ∀ p, t.input (.soft p) = false
  fault : t.trip.fault = false
  sessions : ∀ p, (t.session p).state = .closed ∧ (t.session p).current = none ∧ (t.session p).next = none ∧
    (t.session p).remaining = 0 ∧ (t.session p).warned = false ∧ (t.session p).quota = 6 ∧ (t.session p).soft = false
  notices : ∀ p, t.noticesOf p = ⟨[], 0#16, 0, false⟩
  ports : ∀ p, (t.port p).command = none ∧ (t.port p).response = none ∧ (t.port p).collided = false ∧
    (t.port p).overwritten = false ∧ (t.port p).listening = false ∧ (t.port p).transaction = none
  pointer : t.pointer = .D
  modulators : ∀ c : Channel, (t.modulators[c]).level = 0 ∧ (t.modulators[c]).acc = 0
  pins : ∀ c clock, t.drvPin c clock = false

/-! ### Invariants -/

/-- While a reset is held, the part stands at its initial values (R98, R102, R141, R173). -/
def HeldAtInitial (s : State) : Prop := s.resetHeld = true → s = s.initial s.cause

/-- The values that a channel record keeps between two steps (R42 to R44, R58 to R61, R78). -/
structure ChannelRecord.Sound (r : ChannelRecord) : Prop where
  /-- R44: the drive level never exceeds the ceiling. -/
  drive_le_ceiling : r.drive ≤ r.config.ceiling
  /-- R44: the drive level is 0 in IDLE, HELD and TRIPPED. -/
  drive_zero : r.state = .idle ∨ r.state = .held ∨ r.state = .tripped → r.drive = 0
  /-- R54: in RAMP, last-below is a level the loop has left below. -/
  ramp_last_below : r.state = .ramp → r.lastBelow ≤ r.drive
  /-- R55, R56: in BISECT, the drive level lies strictly between lo and hi, and hi is no level above the ceiling. -/
  bisect_between : r.state = .bisect → r.lo < r.drive ∧ r.drive < r.hi ∧ r.hi ≤ r.config.ceiling
  /-- R61: in LIMITED, the drive level is at the ceiling. -/
  limited_at_ceiling : r.state = .limited → r.drive = r.config.ceiling
  /-- R59: L is one of 2, 4, 8, 16 and 32. -/
  confirm_values : r.confirm ∈ [2, 4, 8, 16, 32]
  /-- R58: the vote count lies from 0 to L minus 1. -/
  votes_below_confirm : r.voteCount < r.confirm
  /-- R43: the run lies from 0 to 3. -/
  run_le : r.run ≤ 3
  /-- R78: the strike count lies from 0 to 2. -/
  strikes_le : r.strikes ≤ 2
  /-- R78: the strike count is 0 in IDLE, HELD and TRIPPED. -/
  strikes_zero : r.state = .idle ∨ r.state = .held ∨ r.state = .tripped → r.strikes = 0
  /-- R42: in IDLE and TRIPPED the target is 0. -/
  target_zero : r.state = .idle ∨ r.state = .tripped → r.target = 0
  /-- R42, R44: the holder is present exactly in the granted states. -/
  holder_iff : r.holder.isSome = r.state.grantedState
  /-- R68 to R72: HELD only under the hold attribute. -/
  held_hold : r.state = .held → r.hold = true
  /-- R72: in the settle states and in RELEASING the hold attribute is clear. -/
  driving_not_hold : r.state.guarded = true → r.hold = false

/-- Every channel record is sound. -/
def ChannelsSound (s : State) : Prop := ∀ c, (s.channel c).Sound

/-- Each input's recorded state follows its source, each group is ACTIVE exactly while its input condition is asserted, and
the hold attributes and FAULT are as the groups give them (R68, R101, R104, R106, R107). -/
structure TripUnitSound (s : State) : Prop where
  held : HeldAtInitial s
  flt : ∀ i : FltPin, s.input (.flt i) = assertedAt s.trip.fltPolarity[i] s.trip.fltLevel[i]
  rail : s.input .rail = s.scan.railFlag
  tripany : s.input .tripany = s.anyTripped
  soft : ∀ p, s.input (.soft p) = (s.session p).soft
  active : ∀ g, (s.group g).state = .active ↔ (s.group g).condition s.trip.inputs = true
  holds : ∀ c, (s.channel c).hold = holdFormed s.trip.groups c
  fault : s.trip.fault = faultFormed s.trip.groups

/-- A port's notice queue holds at most 8 records, a non-empty summary stands beside a full queue and holds at least one
kind, none of them OVERFLOW, and ATTN is asserted exactly while something waits (R134, R135, R138). -/
structure NoticeQueue.Sound (q : NoticeQueue) : Prop where
  length_le : q.queue.length ≤ 8
  lost_le : q.lostCount ≤ 255
  lost_full : 0 < q.lostCount → q.queue.length = 8
  lost_kinds : q.lostKinds ≠ 0#16 ↔ 0 < q.lostCount
  no_overflow : q.lostKinds.getLsbD 11 = false
  attn : q.attn = q.waiting

/-- Every notice queue is sound, and that of a port whose session is not OPEN is empty (R139). -/
def NoticesSound (s : State) : Prop :=
  ∀ p, (s.noticesOf p).Sound ∧ ((s.session p).state ≠ .opened → s.noticesOf p = NoticeQueue.reset)

/-- The amount that a slot adds to the granted sum (R25). -/
def State.grantedAmount (s : State) (i : Fin 24) : Nat :=
  match s.record i with
  | some r => if r.state = .granted then r.amount else 0
  | none => 0

/-- The sum of the amounts of all GRANTED records (R25). -/
def State.grantedTotal (s : State) : Nat := (allSlots.map s.grantedAmount).sum

/-- The granted sum is the sum of the amounts of all GRANTED records and does not exceed the effective budget, which the
budgets and the DERATE state form (R23, R25). -/
structure GrantedSumSound (s : State) : Prop where
  held : HeldAtInitial s
  granted : s.budget.granted = s.grantedTotal
  effective : s.budget.effective = s.budget.formed
  within : s.budget.granted ≤ s.budget.effective

/-- The sum of the release amounts (R26). -/
def State.releaseTotal (s : State) : Nat := (allChannels.map s.releaseOf).sum

/-- The claim table and the channel loops agree: a claim is GRANTED on a channel exactly in the granted states, the holder
names it and the target is its amount; a RELEASING channel's target is its release amount, no other channel has one, and
the releasing sum is their sum (R26, R42, R44). -/
structure GrantsAgree (s : State) : Prop where
  granted_held_by_loop : ∀ i r, s.record i = some r → r.state = .granted →
    (s.channel r.channel).state.grantedState = true ∧ (s.channel r.channel).holder = some (s.handleAt i) ∧
      (s.channel r.channel).target = r.amount
  loop_names_record : ∀ c, (s.channel c).state.grantedState = true →
    ∃ i r, s.record i = some r ∧ r.state = .granted ∧ r.channel = c
  releasing_target : ∀ c, (s.channel c).state = .releasing →
    (s.channel c).target = s.releaseOf c ∧ (s.channel c).holder = none
  release_only_releasing : ∀ c, (s.channel c).state ≠ .releasing → s.releaseOf c = 0
  releasing_sum : s.budget.releasing = s.releaseTotal

/-- The claim table: each count is the number of the port's records, the stamps are distinct and below the counter, no
port holds two records on one channel, and every record's port has an OPEN session (R4, R5, R7, R17). -/
structure TableSound (s : State) : Prop where
  counts : ∀ p, s.count p = s.recordsOf p
  stamp_le : s.stamp ≤ stampLimit
  stamps_below : ∀ i r, s.record i = some r → r.stamp < s.stamp
  stamps_distinct : ∀ i j r q, s.record i = some r → s.record j = some q → r.stamp = q.stamp → i = j
  one_per_channel : ∀ i j r q, s.record i = some r → s.record j = some q → r.port = q.port → r.channel = q.channel → i = j
  owners_open : ∀ i r, s.record i = some r → (s.session r.port).state = .opened

/-- A session record: in OPEN the current period is present and the time remaining lies from 1 to it; in CLOSED and LAPSED
there is no period, no time remaining, no warned flag and no soft bit (R115). -/
structure Session.Sound (x : Session) : Prop where
  opened : x.state = .opened → ∃ n, x.current = some n ∧ n ≤ 1000 ∧ 1 ≤ x.remaining ∧ x.remaining ≤ n
  ended : x.state ≠ .opened →
    x.current = none ∧ x.next = none ∧ x.remaining = 0 ∧ x.warned = false ∧ x.soft = false
  next : ∀ n, x.next = some n → 1 ≤ n ∧ n ≤ 1000
  quota : x.quota ≤ 24

/-- Every session record is sound, and once the reset is released exactly one port has the supervisor flag (R115,
R116). -/
structure SessionsSound (s : State) : Prop where
  held : HeldAtInitial s
  sound : ∀ p, (s.session p).Sound
  supervisor : s.resetHeld = false → ∃ sup, ∀ p, (s.session p).supervisor = decide (p = sup)

/-! ### Settings -/

/-- What the supervisor alone may set is kept by a command (R116): the budgets, the channel configurations, the rail limit
and gain, the scan period and the pending one, the groups' configuration, the polarities, the quotas and the class floors;
but a cycle start puts a pending period in force (R88). -/
structure SameSettings (c : Instr) (s t : State) : Prop where
  period : t.scan.period =
    if c = .scanCycleStart ∧ s.resetHeld = false then s.scan.pendingPeriod.getD s.scan.period else s.scan.period
  pendingPeriod : t.scan.pendingPeriod =
    if c = .scanCycleStart ∧ s.resetHeld = false then none else s.scan.pendingPeriod
  normal : t.budget.normal = s.budget.normal
  derated : t.budget.derated = s.budget.derated
  deratePolarity : t.budget.deratePolarity = s.budget.deratePolarity
  fltPolarity : t.trip.fltPolarity = s.trip.fltPolarity
  config : ∀ c, (t.channel c).config = (s.channel c).config
  railLimit : t.scan.railLimit = s.scan.railLimit
  railGain : t.scan.railGain = s.scan.railGain
  groupInputs : ∀ g, (t.group g).inputs = (s.group g).inputs
  groupTargets : ∀ g, (t.group g).targets = (s.group g).targets
  groupMode : ∀ g, (t.group g).mode = (s.group g).mode
  quota : ∀ p, (t.session p).quota = (s.session p).quota
  floor : ∀ p, (t.session p).floor = (s.session p).floor

/-- Whether a command is one of the part's resets or their release. -/
def isReset : Instr → Bool
  | .powerOnReset | .pinReset | .resetRelease _ _ _ _ => true
  | _ => false

end Sys2Proof.Machine
end

