-- ==== Sys2Proof/Certificates/Slice0/Obligations.lean ====
section
/-! DEFINITION. The statements for the provers. OBLIGATIONS.json lists them with the rules they formalise. Where a
statement gives a command's next state as an equation, it says at once that the command completes, what it changes and
that nothing else changes. -/

open Sys2Proof Sys2Proof.Machine

/-! ### Resets -/

/-- R156 and the tables of values after power-on reset and pin reset. That a pin reset taken while a power-on reset is
held leaves the cause POWER_ON is the model's reading of R156 (notes/assumptions/15.md). -/
def Obligations.ResetsInitialiseEveryBlock : Prop :=
  ∀ s : State,
    (∃ t, exec .powerOnReset s = .next t ∧ InitialValues t ∧ t.cause = .powerOn ∧ t.resetHeld = true ∧
      t.pending = s.pending) ∧
    (∃ t, exec .pinReset s = .next t ∧ InitialValues t ∧
      t.cause = (if s.resetHeld = true ∧ s.cause = .powerOn then .powerOn else .pin) ∧ t.resetHeld = true ∧
      t.pending = s.pending)

/-- R116, with what R22, R87, R102 and R170 take from the release. -/
def Obligations.ReleaseSamplesStrapsAndPins : Prop :=
  ∀ (s : State) (supv1 supv0 : Bool) (flt : Vector Bool 4) (derate : Bool), s.resetHeld = true →
    ∃ t, exec (.resetRelease supv1 supv0 flt derate) s = .next t ∧ t.resetHeld = false ∧
      (∀ p, t.session p =
        { s.session p with
          supervisor := decide (portNumber p = 2 * flagNumber supv1 + flagNumber supv0)
          floor := if portNumber p = 2 * flagNumber supv1 + flagNumber supv0 then 0 else 2 }) ∧
      t.trip.fltLevel = flt ∧ (∀ i : FltPin, t.input (.flt i) = !flt[i]) ∧
      t.input .rail = false ∧ t.input .tripany = false ∧ (∀ p, t.input (.soft p) = false) ∧
      t.budget = { s.budget with derateLevel := derate, derateOn := !derate } ∧
      t.scan = { s.scan with counter := s.scan.counter + 1#16, period := s.scan.pendingPeriod.getD s.scan.period,
                             pendingPeriod := none, position := 0 } ∧
      (∀ c : Channel, t.modulators[c] = { s.modulators[c] with level := (s.channel c).drive }) ∧
      t = { s with sessions := t.sessions, trip := { s.trip with fltLevel := flt, inputs := t.trip.inputs },
                   budget := t.budget, scan := t.scan, frameSlot := 0, modulators := t.modulators, resetHeld := false }

/-- R98, R102, R141 and R173: while a reset is held, nothing but a reset or its release changes the part. -/
def Obligations.NothingMovesWhileResetIsHeld : Prop :=
  ∀ (c : Instr) (s : State), HeldAtInitial s → s.resetHeld = true → isReset c = false → exec c s = .next s

/-! ### The step -/

/-- The block's own step: the command at the front of the queue is taken with the queue's rest; on an empty queue the
block idles, which is the model's choice (notes/assumptions/7.md). -/
def Obligations.StepTakesTheFrontCommand : Prop :=
  (∀ (c : Instr) (rest : List Instr) (s : State),
    step { s with pending := c :: rest } = exec c { s with pending := rest }) ∧
  ∀ s : State, s.pending = [] → step s = .next s

/-- No command stops the part, in any state, and a command leaves the queue of waiting commands as it is. That every
command is taken in every state, also in one where the part cannot present it, is the model's choice (notes/assumptions/1.md
and 6.md), and the queue, which a command leaves, is the model's own (notes/assumptions/7.md and 20.md). -/
def Obligations.EveryCommandCompletes : Prop :=
  ∀ (c : Instr) (s : State), ∃ t, exec c s = .next t ∧ t.pending = s.pending

/-! ### Invariants that every step keeps -/

/-- R42 to R44, R54 to R61, R68 to R72 and R78: the ranges and relations of a channel record. -/
def Obligations.ChannelRecordsStaySound : Prop :=
  ∀ s t : State, ChannelsSound s → step s = .next t → ChannelsSound t

/-- R68, R101, R104, R106 and R107: inputs, groups, hold attributes and FAULT agree. -/
def Obligations.TripUnitStaysSound : Prop :=
  ∀ s t : State, TripUnitSound s → step s = .next t → TripUnitSound t

/-- R134, R135, R138 and R139: the notice queues, their summaries and ATTN. -/
def Obligations.NoticeQueuesStaySound : Prop :=
  ∀ s t : State, NoticesSound s → step s = .next t → NoticesSound t

/-- R23 and R25: the granted sum is exact and never exceeds the effective budget. -/
def Obligations.GrantedSumStaysWithinBudget : Prop :=
  ∀ s t : State, GrantedSumSound s → step s = .next t → GrantedSumSound t

/-- R26, R36, R42 and R44: the claim table, the loops and the releasing sum agree. -/
def Obligations.GrantsAndLoopsStayInAgreement : Prop :=
  ∀ s t : State, GrantsAgree s → step s = .next t → GrantsAgree t

/-- R4, R5, R7 and R17: counts, stamps, one record a port and channel, and owners with OPEN sessions. -/
def Obligations.ClaimTableStaysSound : Prop :=
  ∀ s t : State, TableSound s → step s = .next t → TableSound t

/-- R115 and R116: the session records, and one supervisor port. -/
def Obligations.SessionsStaySound : Prop :=
  ∀ s t : State, SessionsSound s → step s = .next t → SessionsSound t

/-- The invariants hold in the state after reset, which is the model's: a power-on reset still held, with values of its own
for the sampled pins, the floors and the supervisor flag (notes/assumptions/4.md and 5.md). -/
def Obligations.InvariantsHoldAtReset : Prop :=
  ChannelsSound State.reset ∧ TripUnitSound State.reset ∧ NoticesSound State.reset ∧ GrantedSumSound State.reset ∧
    GrantsAgree State.reset ∧ TableSound State.reset ∧ SessionsSound State.reset ∧ HeldAtInitial State.reset

/-! ### Rules of the whole part -/

/-- R116: without a supervisor whose session is OPEN, nothing but a reset changes a setting, and of the scan period only a
cycle start puts the pending one in force (R88). -/
def Obligations.OnlyAnOpenSupervisorChangesSettings : Prop :=
  ∀ (c : Instr) (s t : State), isReset c = false → (∀ p, ¬ SupervisorOpen s p) → exec c s = .next t → SameSettings c s t

/-- R1 and R2: in any action but a reset, a record keeps its port, channel, class and stamp and its slot's generation, or
is freed with the generation one higher; a free slot keeps its generation, and only CLAIM fills one. -/
def Obligations.RecordsKeepTheirHandleAndStamp : Prop :=
  ∀ (c : Instr) (s t : State) (i : Fin 24), isReset c = false → exec c s = .next t →
    (∀ r, s.record i = some r →
      t.slot i = ⟨(s.slot i).gen + 1#8, none⟩ ∨
      ∃ q, t.slot i = ⟨(s.slot i).gen, some q⟩ ∧ q.port = r.port ∧ q.channel = r.channel ∧ q.cls = r.cls ∧
        q.stamp = r.stamp) ∧
    (s.record i = none → (t.slot i).gen = (s.slot i).gen ∧ (t.record i = none ∨ c = .claim))

/-! ### The wire -/

/-- R145, whole: the initial value, the eight shifts for each byte, the worked bytes, the check of a whole frame, and
the response frame's CRC. -/
def Obligations.CrcFollowsItsPolynomial : Prop :=
  crc8 [] = 0xFF#8 ∧
  (∀ (bytes : List Byte) (b : Byte), crc8 (bytes ++ [b]) =
    (fun v : Byte => if v.getLsbD 7 then (v <<< 1) ^^^ 0x07#8 else v <<< 1)^[8] (crc8 bytes ^^^ b)) ∧
  crc8 [0x12#8] = 0x8D#8 ∧ crc8 [0x12#8, 0x34#8] = 0x26#8 ∧ crc8 [0x12#8, 0x34#8, 0x00#8] = 0xF2#8 ∧
  0xC5#8 :: (Command.frame ⟨0x12#8, 0x34#8, []⟩) = [0xC5#8, 0x12#8, 0x34#8, 0x00#8, 0xF2#8] ∧
  (∀ bytes : List Byte, crc8 (bytes ++ [crc8 bytes]) = 0x00#8) ∧
  (∀ c : Command, ∃ body, c.frame = body ++ [crc8 body] ∧
    body = [c.opcode, c.tag, BitVec.ofNat 8 c.payload.length] ++ c.payload) ∧
  ∀ r : Response, ∃ body, r.frame = body ++ [crc8 body] ∧
    body = [statusNumber r.status, r.tag, r.opcode, BitVec.ofNat 8 r.payload.length] ++ r.payload

/-- R144 and R154: the port takes from a frame exactly the command that the frame was formed from, and judges every other
run of bytes bad. -/
def Obligations.FramesDecodeToTheirCommands : Prop :=
  ∀ (frame : List Byte) (c : Command),
    judgeFrame frame = some c ↔ c.payload.length ≤ 12 ∧ frame = c.frame

/-- R155 and R158 to R169: each decoder takes exactly the payloads that encode operands in their ranges, most significant
byte first, and gives those operands. -/
def Obligations.PayloadsDecodeToTheirOperands : Prop :=
  ∀ l : List Byte,
    (noOperands l = some () ↔ l = []) ∧
    (∀ n, leaseOperand l = some n ↔ 1 ≤ n ∧ n ≤ 1000 ∧ l = field 2 n) ∧
    (∀ o, claimOperands l = some o ↔
      1 ≤ o.amount ∧ o.amount ≤ 1023 ∧ l = field 1 o.channel.val ++ field 2 o.amount ++ field 1 o.cls.val) ∧
    (∀ o, adjustOperands l = some o ↔ 1 ≤ o.amount ∧ o.amount ≤ 1023 ∧ l = handleBytes o.handle ++ field 2 o.amount) ∧
    (∀ h, handleOperand l = some h ↔ l = handleBytes h) ∧
    (∀ c b, queryChannelOperands l = some (c, b) ↔ l = field 1 c.val ++ field 1 (flagNumber b)) ∧
    (∀ c, channelOperand l = some c ↔ l = field 1 c.val) ∧
    (∀ b, flagOperand l = some b ↔ l = field 1 (flagNumber b)) ∧
    (∀ n d, budgetOperands l = some (n, d) ↔ n ≤ 4095 ∧ d ≤ 4095 ∧ l = field 2 n ++ field 2 d) ∧
    (∀ n, scanOperand l = some n ↔ 1 ≤ n ∧ n ≤ 255 ∧ l = field 1 n) ∧
    (∀ n g, railOperands l = some (n, g) ↔ n ≤ 4095 ∧ g ≤ 4095 ∧ l = field 2 n ++ field 2 g) ∧
    (∀ o, loopOperands l = some o ↔
      o.start ≤ 4095 ∧ 1 ≤ o.rampStep ∧ o.rampStep ≤ 1023 ∧ 1 ≤ o.downStep ∧ o.downStep ≤ 1023 ∧ o.deadband ≤ 63 ∧
        o.averaging ∈ [1, 2, 4, 8] ∧
        l = field 1 o.channel.val ++ field 1 (flagNumber o.enable) ++ field 2 o.start ++ field 2 o.rampStep
          ++ field 2 o.downStep ++ field 1 o.deadband ++ field 1 o.averaging) ∧
    (∀ o, limitsOperands l = some o ↔
      1 ≤ o.rating ∧ o.rating ≤ 1023 ∧ o.ceiling ≤ 4095 ∧ 1 ≤ o.guard ∧ o.guard ≤ 1023 ∧ o.gain ≤ 4095 ∧
        l = field 1 o.channel.val ++ field 2 o.rating ++ field 2 o.ceiling ++ field 2 o.guard ++ field 2 o.gain) ∧
    (∀ o, groupOperands l = some o ↔
      l = field 1 o.group.val ++ field 2 o.inputs.toNat ++ field 2 o.targets.toNat
        ++ field 1 (match o.mode with | .follow => 0 | .latch => 1)) ∧
    (∀ g, groupOperand l = some g ↔ l = field 1 g.val) ∧
    (∀ o, pinOperands l = some o ↔
      l = ([o.flt[0], o.flt[1], o.flt[2], o.flt[3], o.derate].map fun x : Polarity =>
        match x with | .activeLow => 0x00#8 | .activeHigh => 0x01#8)) ∧
    (∀ o, quotaOperands l = some o ↔
      o.quota ≤ 24 ∧ l = field 1 (portNumber o.port) ++ field 1 o.quota ++ field 1 o.floor.val) ∧
    (∀ p, portOperand l = some p ↔ l = field 1 (portNumber p))

/-- R154, with R143's meaning of each field: the bits of the port status byte, and the bytes of the two frames. -/
def Obligations.StatusByteAndFramesAreLaidOut : Prop :=
  (∀ (s : State) (p : Port),
    (s.statusByte p).getLsbD 7 = (s.port p).response.isSome ∧
    ((s.statusByte p).getLsbD 6 = true ↔ (s.noticesOf p).queue ≠ [] ∨ 0 < (s.noticesOf p).lostCount) ∧
    (s.statusByte p).getLsbD 5 = decide ((s.session p).state = .lapsed) ∧
    (s.statusByte p).getLsbD 4 = decide ((s.session p).state = .opened) ∧
    (s.statusByte p).getLsbD 3 = (s.port p).collided ∧
    (s.statusByte p).getLsbD 2 = (s.port p).overwritten ∧
    (s.statusByte p).getLsbD 1 = (s.session p).supervisor ∧
    (s.statusByte p).getLsbD 0 = false) ∧
  (∀ c : Command, c.frame = [c.opcode, c.tag, BitVec.ofNat 8 c.payload.length] ++ c.payload ++
    [crc8 ([c.opcode, c.tag, BitVec.ofNat 8 c.payload.length] ++ c.payload)]) ∧
  ∀ r : Response, r.frame = [statusNumber r.status, r.tag, r.opcode, BitVec.ofNat 8 r.payload.length] ++ r.payload ++
    [crc8 ([statusNumber r.status, r.tag, r.opcode, BitVec.ofNat 8 r.payload.length] ++ r.payload)]

/-- R142, R144, R146 and R150: a command transaction, taken whole and in stretches between which other actions may come.
The status byte is formed at the assertion of the select line; a good frame enters an EMPTY command slot or collides, and
a bad one is answered, at the deassertion; each byte after the first is 0x00; and a transaction whose first byte is none
of the four codes, or not whole, has no effect beyond its status byte. The fields that hold a transaction in progress and
what the port shifted out are the model's own (notes/assumptions/12.md and 13.md). -/
def Obligations.CommandTransactionFillsOrCollides : Prop :=
  ∀ (s : State) (p : Port), Listens s p →
    ((s.port p).transaction = none →
      (∀ frame, exec (.commandTransaction p .whole (0xC5#8 :: frame)) s =
        .next (withPort s p
          { (s.port p).afterFrame frame with dataOut := statusThenZeros s p (0xC5#8 :: frame) })) ∧
      (∀ bytes, codeless bytes →
        exec (.commandTransaction p .whole bytes) s =
          .next (withPort s p { s.port p with dataOut := statusThenZeros s p bytes })) ∧
      exec (.commandTransaction p .first []) s =
        .next (withPort s p { s.port p with transaction := some ⟨s.statusByte p, [], []⟩, dataOut := [] })) ∧
    (∀ shown bytes, (s.port p).transaction = some ⟨shown, [], []⟩ →
      exec (.commandTransaction p .inner (0xC5#8 :: bytes)) s =
        .next (withPort s p
          { s.port p with
            transaction := some ⟨shown, 0xC5#8 :: bytes, []⟩
            dataOut := (s.port p).dataOut ++ thenZeros [shown] (bytes.length + 1) })) ∧
    (∀ shown frame, (s.port p).transaction = some ⟨shown, 0xC5#8 :: frame, []⟩ →
      (∀ bytes, exec (.commandTransaction p .inner bytes) s =
        .next (withPort s p
          { s.port p with
            transaction := some ⟨shown, 0xC5#8 :: (frame ++ bytes), []⟩
            dataOut := (s.port p).dataOut ++ thenZeros [] bytes.length })) ∧
      exec (.commandTransaction p .last []) s =
        .next (withPort s p { (s.port p).afterFrame frame with transaction := none })) ∧
    ∀ x, (s.port p).transaction = some x → codeless x.received →
      exec (.commandTransaction p .last []) s =
        .next (withPort s p { s.port p with transaction := none })

/-- R142, R147 and R148, for transactions taken whole and in stretches between which other actions may come: a fetch takes
the response out of the slot as its code byte becomes whole, clears the flags that the status byte formed at its assertion
showed, and shifts out the response frame from the second byte on; of an empty slot it shifts out NONE and leaves slot and
flags; a status transaction shifts out the status byte of its assertion, and then at each byte the one formed at that
byte, and changes nothing else. The fields that hold a transaction in progress and what the port shifted out are the
model's own (notes/assumptions/12.md and 13.md). -/
def Obligations.FetchTakesTheResponseAndStatusShowsTheByte : Prop :=
  ∀ (s : State) (p : Port), Listens s p →
    ((s.port p).transaction = none →
      (∀ more, exec (.fetch p .whole (0xF0#8 :: more)) s =
        .next (withPort s p
          { (s.port p).afterFetch (s.statusByte p) with
            dataOut := s.statusByte p :: thenZeros (s.port p).fetchFrame more.length })) ∧
      (∀ more, exec (.statusTransaction p .whole (0x3C#8 :: more)) s =
        .next (withPort s p { s.port p with dataOut := List.replicate (more.length + 1) (s.statusByte p) })) ∧
      exec (.fetch p .first []) s =
        .next (withPort s p { s.port p with transaction := some ⟨s.statusByte p, [], []⟩, dataOut := [] }) ∧
      exec (.statusTransaction p .first []) s =
        .next (withPort s p { s.port p with transaction := some ⟨s.statusByte p, [], []⟩, dataOut := [] })) ∧
    (∀ shown, (s.port p).transaction = some ⟨shown, [], []⟩ →
      exec (.fetch p .inner [0xF0#8]) s =
        .next (withPort s p
          { (s.port p).afterFetch shown with
            transaction := some ⟨shown, [0xF0#8], (s.port p).fetchFrame⟩
            dataOut := (s.port p).dataOut ++ [shown] }) ∧
      exec (.statusTransaction p .inner [0x3C#8]) s =
        .next (withPort s p
          { s.port p with
            transaction := some ⟨shown, [0x3C#8], []⟩
            dataOut := (s.port p).dataOut ++ [shown] })) ∧
    (∀ shown received reply, (s.port p).transaction = some ⟨shown, 0xF0#8 :: received, reply⟩ →
      (∀ bytes, exec (.fetch p .inner bytes) s =
        .next (withPort s p
          { s.port p with
            transaction := some ⟨shown, 0xF0#8 :: (received ++ bytes), reply.drop bytes.length⟩
            dataOut := (s.port p).dataOut ++ thenZeros reply bytes.length })) ∧
      exec (.fetch p .last []) s = .next (withPort s p { s.port p with transaction := none })) ∧
    ∀ shown received, (s.port p).transaction = some ⟨shown, 0x3C#8 :: received, []⟩ →
      (∀ bytes, exec (.statusTransaction p .inner bytes) s =
        .next (withPort s p
          { s.port p with
            transaction := some ⟨shown, 0x3C#8 :: (received ++ bytes), []⟩
            dataOut := (s.port p).dataOut ++ List.replicate bytes.length (s.statusByte p) })) ∧
      exec (.statusTransaction p .last []) s = .next (withPort s p { s.port p with transaction := none })

/-- R128 and R149: a port reset is taken at the deassertion after its two bytes: it empties the port's slots, clears its
flags and closes its session, whatever its state; any other transaction that begins 0xA9 has no effect beyond its status
byte. The fields that hold a transaction in progress and what the port shifted out are the model's own
(notes/assumptions/12.md and 13.md). -/
def Obligations.PortResetEmptiesAndCloses : Prop :=
  ∀ (s : State) (p : Port), Listens s p →
    (∀ (part : Stretch) (bytes out : List Byte), EndsPortReset s p part bytes out →
      let emptied : PortState :=
        { s.port p with command := none, response := none, collided := false, overwritten := false
                        transaction := none, dataOut := out }
      ((s.session p).state = .opened →
        ∃ t, exec (.portReset p part bytes) s = .next (withPort t p emptied) ∧ SessionEnded s t p .closed) ∧
      ((s.session p).state = .lapsed →
        exec (.portReset p part bytes) s =
          .next { s with
            ports := s.ports.set p emptied
            notices := s.notices.set p ⟨[], 0#16, 0, false⟩
            sessions := s.sessions.set p { s.session p with state := .closed } }) ∧
      ((s.session p).state = .closed → exec (.portReset p part bytes) s = .next (withPort s p emptied))) ∧
    ((s.port p).transaction = none →
      exec (.portReset p .first []) s =
        .next (withPort s p { s.port p with transaction := some ⟨s.statusByte p, [], []⟩, dataOut := [] })) ∧
    ∀ more : List Byte,
      ((s.port p).transaction = none →
        (more ≠ [0x96#8] →
          exec (.portReset p .whole (0xA9#8 :: more)) s =
            .next (withPort s p { s.port p with dataOut := statusThenZeros s p (0xA9#8 :: more) })) ∧
        exec (.portReset p .first (0xA9#8 :: more)) s =
          .next (withPort s p
            { s.port p with transaction := some ⟨s.statusByte p, 0xA9#8 :: more, []⟩
                            dataOut := statusThenZeros s p (0xA9#8 :: more) })) ∧
      ∀ shown, (s.port p).transaction = some ⟨shown, 0xA9#8 :: more, []⟩ → more ≠ [0x96#8] →
        exec (.portReset p .last []) s = .next (withPort s p { s.port p with transaction := none })

/-- R141: a port listens from the deassertion of its select line after a reset, and until then no transaction has any
effect on the part. -/
def Obligations.PortListensFromDeselection : Prop :=
  ∀ (s : State) (p : Port),
    (s.resetHeld = false →
      exec (.portSelectDeassertedAfterReset p) s =
        .next { s with ports := s.ports.set p { s.port p with listening := true } }) ∧
    ((s.port p).listening = false → ∀ (part : Stretch) (bytes : List Byte),
      exec (.commandTransaction p part bytes) s = .next s ∧ exec (.fetch p part bytes) s = .next s ∧
        exec (.statusTransaction p part bytes) s = .next s ∧ exec (.portReset p part bytes) s = .next s)

/-! ### The executor -/

/-- R151: the executor takes the command of the first WAITING port after the pointer; its pointer then names that port and
its slot is EMPTY; and each other WAITING port is nearer the front of the round than it was, of which it is at most the
fourth. -/
def Obligations.ExecutorServesInRoundRobinOrder : Prop :=
  ∀ (s : State) (p : Port) (c : Command),
    (Takes s p c ↔ (s.port p).command = some c ∧
      ∀ q, (s.port q).command.isSome = true → roundDistance s.pointer p ≤ roundDistance s.pointer q) ∧
    (Takes s p c → ∀ q, q ≠ p → (s.port q).command.isSome = true →
      roundDistance p q < roundDistance s.pointer q ∧ roundDistance s.pointer q ≤ 3) ∧
    ∀ (i : Instr) (t : State), Takes s p c →
      (opcodeOf i = some c.opcode ∨ (i = .unknownOpcode ∧ knownOpcodes.contains c.opcode = false)) →
      exec i s = .next t → t.pointer = p ∧ (t.port p).command = none

/-- R117 and R152: checks 1 to 4, in their order, for every command. -/
def Obligations.FirstFailedCheckDecidesTheStatus : Prop :=
  ∀ (s : State) (p : Port) (c : Command), Takes s p c →
    (knownOpcodes.contains c.opcode = false → exec .unknownOpcode s = .next (s.refused p c .unknown)) ∧
    ∀ i : Instr, opcodeOf i = some c.opcode →
      (operandsPass c.opcode c.payload = false → exec i s = .next (s.refused p c .badOperand)) ∧
      (operandsPass c.opcode c.payload = true → i ≠ .openSession → i ≠ .status →
        ((s.session p).state = .closed → exec i s = .next (s.refused p c .noSession)) ∧
        ((s.session p).state = .lapsed → exec i s = .next (s.refused p c .lapsed))) ∧
      (operandsPass c.opcode c.payload = true → (s.session p).state = .opened → supervisorOnly c.opcode = true →
        (s.session p).supervisor = false → exec i s = .next (s.refused p c .notSupervisor))

/-- R152: a command answered with any status but OK changes nothing but its port's slots and flags and the pointer. -/
def Obligations.RefusalsChangeNothing : Prop :=
  ∀ (i : Instr) (s t : State) (p : Port) (c : Command) (r : Response), Takes s p c →
    (opcodeOf i = some c.opcode ∨ (i = .unknownOpcode ∧ knownOpcodes.contains c.opcode = false)) →
    exec i s = .next t → (t.port p).response = some r → r.status ≠ .ok → t = s.refused p c r.status

/-! ### Sessions and leases -/

/-- R118 and R122: OPEN starts a lease from CLOSED and from LAPSED, and is refused STATE in OPEN; SET LEASE stores the
preload and leaves the lease in progress as it is. -/
def Obligations.OpenStartsALeaseAndSetLeaseStoresThePreload : Prop :=
  ∀ (s : State) (p : Port) (c : Command) (n : Nat), Takes s p c → leaseOperand c.payload = some n →
    (c.opcode = 0x01#8 → (s.session p).state ≠ .opened →
      exec .openSession s = .next (State.answered
        { s with sessions := s.sessions.set p
                  { s.session p with state := .opened, current := some n, next := none, remaining := n, warned := false } }
        p c .ok [])) ∧
    (c.opcode = 0x01#8 → (s.session p).state = .opened → exec .openSession s = .next (s.refused p c .state)) ∧
    (c.opcode = 0x04#8 → (s.session p).state = .opened →
      exec .setLease s = .next (State.answered
        { s with sessions := s.sessions.set p { s.session p with next := some n } } p c .ok []))

/-- R121, whole: RENEW puts a stored preload in force, restarts the timer at the current period, clears the warned flag
and answers the period; it changes nothing else; from a LAPSED session it is refused LAPSED. -/
def Obligations.RenewRestartsTheLease : Prop :=
  ∀ (s : State) (p : Port) (c : Command), Takes s p c → c.opcode = 0x03#8 → c.payload = [] →
    (∀ n, (s.session p).state = .opened →
      (s.session p).next = some n ∨ ((s.session p).next = none ∧ (s.session p).current = some n) →
      exec .renew s = .next (State.answered
        { s with sessions := s.sessions.set p
                  { s.session p with current := some n, next := none, remaining := n, warned := false } }
        p c .ok (field 2 n))) ∧
    ((s.session p).state = .lapsed → exec .renew s = .next (s.refused p c .lapsed))

/-- R119 and R120: a tick that is not the last lowers the time remaining by one, and makes one LEASE_WARN where it brings
it to half the current period. -/
def Obligations.LeaseTickCountsDownAndWarns : Prop :=
  ∀ (s : State) (p : Port) (n : Nat), (s.session p).state = .opened → (s.session p).current = some n →
    2 ≤ (s.session p).remaining →
    ((s.session p).remaining - 1 ≠ n / 2 ∨ (s.session p).warned = true →
      exec (.leaseTick p) s = .next { s with
        sessions := s.sessions.set p { s.session p with remaining := (s.session p).remaining - 1 } }) ∧
    ((s.session p).remaining - 1 = n / 2 → (s.session p).warned = false →
      exec (.leaseTick p) s = .next { s with
        sessions := s.sessions.set p { s.session p with remaining := n / 2, warned := true }
        notices := s.notices.set p ((s.noticesOf p).put
          { kind := .leaseWarn, stamp := s.scan.counter, channel := none, handle := none, value := some (n / 2),
            derate := none, kindsLost := 0#16, lostCount := 0 }) })

/-- R123 to R125: the tick that brings the time remaining to 0 ends the session with result LAPSED, and a waiting command
is discarded and answered LAPSED. That LEASE_TICK at a time remaining of 1 is that tick is the model's reading
(notes/assumptions/8.md). -/
def Obligations.ExpiryEndsTheSession : Prop :=
  ∀ (s : State) (p : Port), (s.session p).state = .opened → (s.session p).remaining = 1 →
    ∃ t, SessionEnded s t p .lapsed ∧
      exec (.leaseExpiry p) s = .next { t with ports := s.ports.set p (waitingDiscarded (s.port p)) } ∧
      exec (.leaseTick p) s = .next { t with ports := s.ports.set p (waitingDiscarded (s.port p)) }

/-- R126 and R127: CLOSE ends the sender's session with result CLOSED; EVICT ends another port's with result LAPSED, its
waiting command answered LAPSED, and is refused STATE for the sender itself and for a port that is not OPEN. -/
def Obligations.CloseAndEvictEndSessions : Prop :=
  ∀ (s : State) (p : Port) (c : Command),
    (TakenOpen s p c 0x02#8 → c.payload = [] →
      ∃ t : State, exec .closeSession s = .next (t.answered p c .ok []) ∧ SessionEnded s t p .closed) ∧
    (TakenSupervisor s p c 0x4B#8 → ∀ q, portOperand c.payload = some q →
      (q ≠ p → (s.session q).state = .opened →
        ∃ t, SessionEnded s t q .lapsed ∧
          exec .evict s = .next
            (State.answered { t with ports := s.ports.set q (waitingDiscarded (s.port q)) } p c .ok [])) ∧
      (q = p ∨ (s.session q).state ≠ .opened → exec .evict s = .next (s.refused p c .state)))

/-! ### Reading commands -/

/-- R27, R157, R161, R162 and R163: STATUS, QUERY CLAIM, QUERY BUDGET and QUERY CHANNEL answer the bytes of their tables
and change nothing. -/
def Obligations.QueriesReportAndChangeNothing : Prop :=
  ∀ (s : State) (p : Port) (c : Command),
    (Takes s p c → c.opcode = 0x05#8 → c.payload = [] → ∀ sup, (∀ q, (s.session q).supervisor = decide (q = sup)) →
      exec .status s = .next (s.answered p c .ok
        (field 1 (causeNumber s.cause) ++ field 1 (portNumber sup) ++ field 2 s.scan.counter.toNat
          ++ field 1 (flagNumber s.scan.railFlag) ++ field 2 s.scan.railValue
          ++ (((List.finRange 4).map fun g => field 1 (groupNumber (s.group g).state)).flatten)
          ++ field 1 (flagNumber s.trip.fault) ++ field 1 (sessionNumber (s.session p).state)
          ++ field 2 (s.session p).remaining))) ∧
    (TakenOpen s p c 0x30#8 → c.payload = [] →
      exec .queryBudget s = .next (s.answered p c .ok
        (field 2 s.budget.normal ++ field 2 s.budget.derated ++ field 1 (flagNumber s.budget.derateOn)
          ++ field 2 s.budget.effective ++ field 2 s.budget.granted ++ field 2 s.budget.releasing
          ++ field 2 (((s.budget.effective : Int) - s.budget.granted - s.budget.releasing) % 65536).toNat))) ∧
    (TakenOpen s p c 0x13#8 → ∀ h r, handleOperand c.payload = some h →
      (s.slot h.slot).gen = h.gen → s.record h.slot = some r → r.port = p ∨ (s.session p).supervisor = true →
      exec .queryClaim s = .next (s.answered p c .ok
        (handleBytes h ++ field 1 (portNumber r.port) ++ field 1 r.channel.val ++ field 2 r.amount
          ++ field 1 r.cls.val ++ field 4 r.stamp ++ field 1 (if r.state = .granted then 1 else 0) ++ field 1 r.shed
          ++ field 1 (if r.state = .granted then 0
              else 1 + ((List.finRange 24).filter fun i => (s.record i).any fun q =>
                decide (q.state = .pending ∧ (q.cls < r.cls ∨ (q.cls = r.cls ∧ q.stamp < r.stamp)))).length)))) ∧
    (TakenOpen s p c 0x20#8 → ∀ ch, queryChannelOperands c.payload = some (ch, false) →
      exec .queryChannel s = .next (s.answered p c .ok
        (let r := s.channel ch
         field 1 ch.val ++ field 1 (loopNumber r.state) ++ field 2 r.drive ++ field 2 r.target
          ++ handleBytesOr r.holder ++ field 1 (flagNumber r.hold) ++ field 1 (directionNumber r.voteDir)
          ++ field 1 r.voteCount ++ field 1 r.confirm ++ field 1 r.run ++ field 1 r.strikes
          ++ field 1 (flagNumber r.settled) ++ field 2 r.measured ++ field 1 ((r.tripOwner.map portNumber).getD 0xFF) ++ field 2 r.tripValue))) ∧
    (TakenOpen s p c 0x20#8 → ∀ ch, queryChannelOperands c.payload = some (ch, true) →
      exec .queryChannel s = .next (s.answered p c .ok
        (let g := (s.channel ch).config
         field 1 ch.val ++ field 1 (flagNumber g.enable) ++ field 2 g.start ++ field 2 g.rampStep ++ field 2 g.downStep
          ++ field 1 g.deadband ++ field 1 g.averaging ++ field 2 g.rating ++ field 2 g.ceiling ++ field 2 g.guard
          ++ field 2 g.gain)))

/-! ### Claims -/

/-- R8: the tests of CLAIM after the first, in their order. -/
def Obligations.ClaimIsRefusedByTheFirstFailedTest : Prop :=
  ∀ (s : State) (p : Port) (c : Command) (o : ClaimOperands), TakenOpen s p c 0x10#8 →
    claimOperands c.payload = some o →
    if o.cls < (s.session p).floor then exec .claim s = .next (s.refused p c .cls)
    else if (s.channel o.channel).config.enable = false then exec .claim s = .next (s.refused p c .disabled)
    else if (s.channel o.channel).config.rating < o.amount then exec .claim s = .next (s.refused p c .overRating)
    else if s.budget.normal < o.amount then exec .claim s = .next (s.refused p c .tooLarge)
    else if ∃ i, (s.record i).map (fun r => (r.port, r.channel)) = some (p, o.channel) then
      exec .claim s = .next (s.refused p c .duplicate)
    else if (s.session p).quota ≤ s.count p then exec .claim s = .next (s.refused p c .quota)
    else if (∀ i, (s.record i).isSome = true) ∨ 4294967295 ≤ s.stamp then exec .claim s = .next (s.refused p c .full)
    else True

/-- R9: an accepted CLAIM makes a PENDING record in the lowest-numbered free slot, runs a pass, and answers the handle and
whether the record is GRANTED at its end. -/
def Obligations.ClaimMakesARecordInTheLowestFreeSlot : Prop :=
  ∀ (s : State) (p : Port) (c : Command) (o : ClaimOperands) (i : Fin 24), TakenOpen s p c 0x10#8 →
    claimOperands c.payload = some o →
    (s.session p).floor ≤ o.cls → (s.channel o.channel).config.enable = true →
    o.amount ≤ (s.channel o.channel).config.rating → o.amount ≤ s.budget.normal →
    (∀ j, (s.record j).map (fun r => (r.port, r.channel)) ≠ some (p, o.channel)) →
    s.count p < (s.session p).quota → s.record i = none → (∀ j, j < i → (s.record j).isSome = true) →
    s.stamp < 4294967295 →
    let made : State :=
      { s with
        slots := s.slots.set i ⟨(s.slot i).gen, some ⟨p, o.channel, o.amount, o.cls, s.stamp, .pending, 0⟩⟩
        counts := s.counts.set p (s.count p + 1)
        stamp := s.stamp + 1 }
    exec .claim s = .next (made.allocationPass.answered p c .ok
      (handleBytes ⟨(s.slot i).gen, i⟩ ++ field 1 (flagNumber (made.allocationPass.recordIs .granted i))))

/-- R3: the tests of a quoted handle by ADJUST, RELEASE, REVOKE and QUERY CLAIM, in their order. -/
def Obligations.HandlesAreResolvedBeforeTheCommand : Prop :=
  ∀ (s : State) (p : Port) (c : Command) (h : Handle),
    ((s.slot h.slot).gen ≠ h.gen ∨ s.record h.slot = none →
      (TakenOpen s p c 0x11#8 → (adjustOperands c.payload).map AdjustOperands.handle = some h →
        exec .adjust s = .next (s.refused p c .stale)) ∧
      (TakenOpen s p c 0x12#8 → handleOperand c.payload = some h → exec .release s = .next (s.refused p c .stale)) ∧
      (TakenOpen s p c 0x13#8 → handleOperand c.payload = some h →
        exec .queryClaim s = .next (s.refused p c .stale)) ∧
      (TakenSupervisor s p c 0x4A#8 → handleOperand c.payload = some h →
        exec .revoke s = .next (s.refused p c .stale))) ∧
    (∀ r, (s.slot h.slot).gen = h.gen → s.record h.slot = some r → r.port ≠ p →
      (TakenOpen s p c 0x11#8 → (adjustOperands c.payload).map AdjustOperands.handle = some h →
        exec .adjust s = .next (s.refused p c .notOwner)) ∧
      (TakenOpen s p c 0x12#8 → handleOperand c.payload = some h →
        exec .release s = .next (s.refused p c .notOwner)) ∧
      (TakenOpen s p c 0x13#8 → (s.session p).supervisor = false → handleOperand c.payload = some h →
        exec .queryClaim s = .next (s.refused p c .notOwner)))

/-- R12 and R13: ADJUST of a PENDING record, and the four cases of a GRANTED one. -/
def Obligations.AdjustFollowsItsTable : Prop :=
  ∀ (s : State) (p : Port) (c : Command) (o : AdjustOperands) (r : Claim), TakenOpen s p c 0x11#8 →
    adjustOperands c.payload = some o → (s.slot o.handle.slot).gen = o.handle.gen →
    s.record o.handle.slot = some r → r.port = p →
    let rating := (s.channel r.channel).config.rating
    let headroom : Int := (s.budget.effective : Int) - s.budget.granted - s.budget.releasing
    let changed : State :=
      { s with slots := s.slots.set o.handle.slot ⟨(s.slot o.handle.slot).gen, some { r with amount := o.amount }⟩ }
    let retargeted : ChannelRecord :=
      if (s.channel r.channel).state = .track then
        { s.channel r.channel with target := o.amount, voteDir := .none, voteCount := 0 }
      else { s.channel r.channel with target := o.amount }
    (rating < o.amount → exec .adjust s = .next (s.refused p c .overRating)) ∧
    (o.amount ≤ rating → r.state = .pending → exec .adjust s = .next (changed.allocationPass.answered p c .ok [])) ∧
    (o.amount ≤ rating → r.state = .granted → (s.channel r.channel).state.grantedState = true →
      (o.amount < r.amount →
        exec .adjust s = .next (State.answered
          (State.allocationPass
            { changed with
              budget := { s.budget with granted := s.budget.granted - (r.amount - o.amount) }
              channels := s.channels.set r.channel retargeted })
          p c .ok [])) ∧
      (o.amount = r.amount → exec .adjust s = .next (s.answered p c .ok [])) ∧
      (r.amount < o.amount → (o.amount : Int) - r.amount ≤ headroom →
        exec .adjust s = .next (State.answered
          { changed with
            budget := { s.budget with granted := s.budget.granted + (o.amount - r.amount) }
            channels := s.channels.set r.channel retargeted }
          p c .ok [])) ∧
      (r.amount < o.amount → headroom < (o.amount : Int) - r.amount →
        exec .adjust s = .next (s.refused p c .short)))

/-- R14 and R15: RELEASE and REVOKE free the record, end its grant if it had one, and run a pass; REVOKE makes a REVOKED
notice for the record's port before the pass. -/
def Obligations.ReleaseAndRevokeFreeTheClaim : Prop :=
  ∀ (s : State) (p : Port) (c : Command) (h : Handle) (r : Claim), handleOperand c.payload = some h →
    (s.slot h.slot).gen = h.gen → s.record h.slot = some r →
    (r.state = .granted → (s.channel r.channel).state.grantedState = true) →
    (TakenOpen s p c 0x12#8 → r.port = p →
      exec .release s = .next ((withClaimEnded s h.slot r).allocationPass.answered p c .ok [])) ∧
    (TakenSupervisor s p c 0x4A#8 →
      exec .revoke s = .next (State.answered
        (State.allocationPass
          { withClaimEnded s h.slot r with
            notices := withNotice s r.port (noticeOf s .revoked r.channel (some h) none) })
        p c .ok []))

/-! ### The allocator -/

/-- R30 and R31: what an allocation pass leaves. No PENDING record is eligible, or the first eligible one in wait order
exceeds the headroom; no record that still waits ahead of one that was granted is eligible; a pass that grants leaves the
headroom at 0 or above; each record granted has its channel in RAMP or HELD with its handle and amount, and no other
channel is changed; the granted sum rises by what was granted; one GRANTED notice is made for each grant, in the order of
the grants, which is wait order; and nothing else changes. -/
def Obligations.PassKeepsHeadOfLineOrder : Prop :=
  ∀ s t : State, t = s.allocationPass →
    (∀ i r, t.record i = some r → r.state = .pending → t.eligible r = true →
      ∃ j q, t.record j = some q ∧ q.state = .pending ∧ t.eligible q = true ∧ t.headroom < q.amount ∧
        ∀ k u, t.record k = some u → u.state = .pending → t.eligible u = true → q.notBehind u = true) ∧
    (∀ i r k q, s.record i = some r → r.state = .pending → t.recordIs .granted i = true →
      t.record k = some q → q.state = .pending → r.notBehind q = false → t.eligible q = false) ∧
    (∀ i, (t.slot i).gen = (s.slot i).gen ∧
      (t.record i = s.record i ∨
        ∃ r, s.record i = some r ∧ r.state = .pending ∧ t.record i = some { r with state := .granted } ∧
          0 ≤ t.headroom ∧ (s.channel r.channel).state = .idle ∧ r.amount ≤ s.budget.effective ∧
          t.channel r.channel =
            { s.channel r.channel with
              holder := some ⟨(s.slot i).gen, i⟩, target := r.amount, lastBelow := 0, lo := 0, hi := 0,
              voteDir := .none, voteCount := 0, confirm := 2, run := 0, lastAdjust := .none, strikes := 0,
              settled := false
              state := if (s.channel r.channel).hold then .held else .ramp
              drive := if (s.channel r.channel).hold then 0
                else min (s.channel r.channel).config.start (s.channel r.channel).config.ceiling })) ∧
    (∀ c, t.channel c = s.channel c ∨
      ∃ i r, s.record i = some r ∧ r.state = .pending ∧ t.recordIs .granted i = true ∧ r.channel = c) ∧
    t.budget.granted + s.grantedTotal = s.budget.granted + t.grantedTotal ∧
    t.budget = { s.budget with granted := t.budget.granted } ∧
    (∃ l : List (Fin 24), l.Nodup ∧ InWaitOrder s l ∧
      (∀ i, i ∈ l ↔ s.recordIs .pending i = true ∧ t.recordIs .granted i = true) ∧
      ∀ q, t.noticesOf q = s.noticesAfter q (claimNotices s .granted (fun r => some r.amount) l q)) ∧
    t = { s with slots := t.slots, channels := t.channels, budget := t.budget, notices := t.notices }

/-- R28, R33 and R34: shedding brings the granted sum within the effective budget, takes the least urgent class first and
in a class the newest stamp first, and stops at the first shed that suffices; a record that is shed keeps all but its
state and its shed count; its channel's grant ends, the releasing sum rises by the amounts that wind down, and no other
channel is changed; and one SHED notice is made for each shed, in the order of the sheds. -/
def Obligations.SheddingTakesTheLeastUrgentNewestFirst : Prop :=
  ∀ s t : State, t = s.shed → s.budget.granted = s.grantedTotal →
    let gone : Fin 24 → Bool := fun i => s.recordIs .granted i && t.recordIs .pending i
    t.budget.granted ≤ t.budget.effective ∧ t.budget.granted = t.grantedTotal ∧
    (∀ i, t.slot i = s.slot i ∨
      ∃ r, s.record i = some r ∧ r.state = .granted ∧
        t.slot i = ⟨(s.slot i).gen, some { r with state := .pending, shed := min 255 (r.shed + 1) }⟩) ∧
    (∀ i j r q, s.record i = some r → r.state = .granted → t.recordIs .pending i = true →
      s.record j = some q → t.recordIs .granted j = true → q.notBehind r = true) ∧
    (∀ i, s.recordIs .granted i = true → t.recordIs .pending i = true →
      ∃ j q, s.record j = some q ∧ q.state = .granted ∧ t.recordIs .pending j = true ∧
        t.budget.effective < t.budget.granted + q.amount ∧
        ∀ k u, s.record k = some u → u.state = .granted → t.recordIs .pending k = true → q.notBehind u = true) ∧
    (∀ i r, s.record i = some r → gone i = true → HoldsChannel s i r →
      t.channel r.channel = (withGrantEnded s r.channel r.amount).channel r.channel ∧
        t.releaseOf r.channel = (withGrantEnded s r.channel r.amount).releaseOf r.channel) ∧
    (∀ c, (∀ i, gone i = true → (s.record i).map Claim.channel ≠ some c) →
      t.channel c = s.channel c ∧ t.releaseOf c = s.releaseOf c) ∧
    ((∀ i r, s.record i = some r → gone i = true → HoldsChannel s i r) →
      t.budget.releasing = s.budget.releasing + s.sumOver gone (windDownOf s)) ∧
    (∃ l : List (Fin 24), l.Nodup ∧ InWaitOrder s l.reverse ∧ (∀ i, i ∈ l ↔ gone i = true) ∧
      ∀ q, t.noticesOf q = s.noticesAfter q (claimNotices s .shed (fun _ => none) l q)) ∧
    t = { s with slots := t.slots, channels := t.channels, releases := t.releases, notices := t.notices
                 budget := { s.budget with granted := t.budget.granted, releasing := t.budget.releasing } }

/-- R21 to R24: SET BUDGET and a change of DERATE form the effective budget, shed where they may, make a BUDGET notice for
each OPEN port where it has changed, and run a pass. -/
def Obligations.BudgetActionsShedNotifyAndPass : Prop :=
  ∀ s : State,
    let finish : State → State := fun u =>
      State.allocationPass
        (if u.budget.effective = s.budget.effective then u
         else { u with notices :=
           let put : Port → NoticeQueue := fun q =>
             if (s.session q).state = .opened then
               (u.noticesOf q).put
                 { kind := .budget, stamp := s.scan.counter, channel := none, handle := none,
                   value := some u.budget.effective, derate := some u.budget.derateOn, kindsLost := 0#16,
                   lostCount := 0 }
             else u.noticesOf q
           ⟨put .A, put .B, put .C, put .D⟩ })
    (∀ (p : Port) (c : Command) (n d : Nat), TakenSupervisor s p c 0x40#8 → budgetOperands c.payload = some (n, d) →
      exec .setBudget s = .next ((finish (State.shed
        { s with budget :=
          { s.budget with
            normal := n, derated := d, effective := if s.budget.derateOn then min n d else n } })).answered
        p c .ok [])) ∧
    (∀ level : Bool, s.resetHeld = false →
      let on : Bool := match s.budget.deratePolarity with | .activeLow => !level | .activeHigh => level
      (on = s.budget.derateOn →
        exec (.derateEvent level) s = .next { s with budget := { s.budget with derateLevel := level } }) ∧
      (on = true → s.budget.derateOn = false →
        exec (.derateEvent level) s = .next (finish (State.shed
          { s with budget :=
            { s.budget with
              derateLevel := level, derateOn := true, effective := min s.budget.normal s.budget.derated } }))) ∧
      (on = false → s.budget.derateOn = true →
        exec (.derateEvent level) s = .next (finish
          { s with budget :=
            { s.budget with derateLevel := level, derateOn := false, effective := s.budget.normal } })))

/-! ### Notices -/

/-- R133 to R135 and R138: a notice joins the back of its port's queue, or is lost to its summary, where the port's session
is OPEN; ATTN is formed from the queue and the summary. -/
def Obligations.NoticeJoinsItsQueueOrIsLost : Prop :=
  ∀ (s : State) (p : Port) (n : Notice),
    ((s.session p).state ≠ .opened → s.notify p n = s) ∧
    ((s.session p).state = .opened → (s.noticesOf p).queue.length < 8 →
      s.notify p n = { s with notices := s.notices.set p
                                { s.noticesOf p with queue := (s.noticesOf p).queue ++ [n], attn := true } }) ∧
    ((s.session p).state = .opened → 8 ≤ (s.noticesOf p).queue.length →
      s.notify p n = { s with notices := s.notices.set p
                                { s.noticesOf p with
                   lostKinds := (s.noticesOf p).lostKinds ||| (1#16 <<< kindNumber n.kind)
                   lostCount := if (s.noticesOf p).lostCount < 255 then (s.noticesOf p).lostCount + 1 else 255
                   attn := true } })

/-- R136, R138 and R165: TAKE NOTICE returns the oldest record, places the overflow summary at the back as an OVERFLOW
record where there is one, and answers EMPTY where both are empty. -/
def Obligations.TakeNoticeReturnsTheOldest : Prop :=
  ∀ (s : State) (p : Port) (c : Command), TakenOpen s p c 0x31#8 → c.payload = [] →
    let q := s.noticesOf p
    let fields : Notice → List Byte := fun n =>
      field 1 (kindNumber n.kind) ++ field 2 n.stamp.toNat ++ field 1 ((n.channel.map Fin.val).getD 0xFF)
        ++ handleBytesOr n.handle ++ field 2 (n.value.getD 0xFFFF)
        ++ field 1 ((n.derate.map flagNumber).getD 0xFF) ++ field 2 n.kindsLost.toNat ++ field 1 n.lostCount
    (q.queue = [] → q.lostCount = 0 → exec .takeNotice s = .next (s.refused p c .empty)) ∧
    (∀ n rest, q.queue = n :: rest → q.lostCount = 0 →
      exec .takeNotice s = .next (State.answered
        { s with notices := s.notices.set p { q with queue := rest, attn := !rest.isEmpty } }
        p c .ok (fields n ++ field 1 rest.length))) ∧
    (∀ n rest, q.queue = n :: rest → 0 < q.lostCount →
      let overflow : Notice :=
        { kind := .overflow, stamp := s.scan.counter, channel := none, handle := none, value := none, derate := none,
          kindsLost := q.lostKinds, lostCount := q.lostCount }
      let filled : NoticeQueue := { queue := rest ++ [overflow], lostKinds := 0#16, lostCount := 0, attn := true }
      exec .takeNotice s = .next (State.answered { s with notices := s.notices.set p filled }
        p c .ok (fields n ++ field 1 (rest.length + 1))))

/-! ### Measurements -/

/-- R90: a conversion that does not complete its window joins it, and delivers nothing. -/
def Obligations.ConversionJoinsTheWindow : Prop :=
  ∀ (s : State) (c : Channel) (input : Int), s.resetHeld = false →
    (s.scan.windows[c]).count + 1 < (s.channel c).config.averaging →
    exec (.channelConversionEnd c input) s = .next { s with scan := { s.scan with
      windows := s.scan.windows.set c
        ⟨(s.scan.windows[c]).sum + min 4095 input.toNat, (s.scan.windows[c]).count + 1⟩
      position := c.val + 1 } }

/-- R54, R55 and R78: a measurement in RAMP that does not trip the channel. -/
def Obligations.RampClimbsUntilTheTarget : Prop :=
  ∀ (s : State) (c : Channel) (input : Int) (m : Nat), Delivers s c input m → (s.channel c).state = .ramp →
    NoTrip (s.channel c) m →
    let r : ChannelRecord := { s.channel c with measured := m, strikes := strikesNow (s.channel c) m }
    (m < r.target → r.drive < r.config.ceiling →
      exec (.channelConversionEnd c input) s = .next (afterMeasurement s c
        { r with lastBelow := r.drive, drive := min (r.drive + r.config.rampStep) r.config.ceiling } s.notices)) ∧
    (m < r.target → r.drive = r.config.ceiling →
      exec (.channelConversionEnd c input) s = .next (afterMeasurement s c { r with state := .limited }
        (withHolderNotice s .limited c (some m)))) ∧
    (r.target ≤ m → r.drive ≤ r.lastBelow + 1 →
      exec (.channelConversionEnd c input) s = .next (afterMeasurement s c
        { r with lo := r.lastBelow, hi := r.drive, state := .track, voteDir := .none, voteCount := 0 } s.notices)) ∧
    (r.target ≤ m → r.lastBelow + 1 < r.drive →
      exec (.channelConversionEnd c input) s = .next (afterMeasurement s c
        { r with lo := r.lastBelow, hi := r.drive, state := .bisect, drive := (r.lastBelow + r.drive) / 2 } s.notices))

/-- R56 and R78: a measurement in BISECT that does not trip the channel. -/
def Obligations.BisectHalvesTheInterval : Prop :=
  ∀ (s : State) (c : Channel) (input : Int) (m : Nat), Delivers s c input m → (s.channel c).state = .bisect →
    NoTrip (s.channel c) m →
    let r : ChannelRecord := { s.channel c with measured := m, strikes := strikesNow (s.channel c) m }
    let lo := if r.target ≤ m then r.lo else r.drive
    let hi := if r.target ≤ m then r.drive else r.hi
    (hi ≤ lo + 1 →
      exec (.channelConversionEnd c input) s = .next (afterMeasurement s c
        { r with lo := lo, hi := hi, drive := hi, state := .track, voteDir := .none, voteCount := 0 } s.notices)) ∧
    (lo + 1 < hi →
      exec (.channelConversionEnd c input) s = .next (afterMeasurement s c
        { r with lo := lo, hi := hi, drive := (lo + hi) / 2 } s.notices))

/-- R57 to R60, R62 and R78: a measurement in TRACK that does not trip the channel. -/
def Obligations.TrackVotesAndAdjusts : Prop :=
  ∀ (s : State) (c : Channel) (input : Int) (m : Nat), Delivers s c input m → (s.channel c).state = .track →
    NoTrip (s.channel c) m →
    let r : ChannelRecord := { s.channel c with measured := m, strikes := strikesNow (s.channel c) m }
    (r.target ≤ m + r.config.deadband → m ≤ r.target + r.config.deadband →
      (r.settled = true →
        exec (.channelConversionEnd c input) s = .next (afterMeasurement s c
          { r with voteDir := .none, voteCount := 0 } s.notices)) ∧
      (r.settled = false →
        exec (.channelConversionEnd c input) s = .next (afterMeasurement s c
          { r with voteDir := .none, voteCount := 0, settled := true }
          (withHolderNotice s .settled c (some r.drive))))) ∧
    ∀ d : Direction, (d = .up ∧ m + r.config.deadband < r.target) ∨ (d = .down ∧ r.target + r.config.deadband < m) →
      (votesNow r d < r.confirm →
        exec (.channelConversionEnd c input) s = .next (afterMeasurement s c
          { r with voteDir := d, voteCount := votesNow r d } s.notices)) ∧
      (r.confirm ≤ votesNow r d → d = .up → r.drive = r.config.ceiling →
        exec (.channelConversionEnd c input) s = .next (afterMeasurement s c
          { r with voteDir := .none, voteCount := 0, state := .limited } (withHolderNotice s .limited c (some m)))) ∧
      (r.confirm ≤ votesNow r d → d = .down ∨ r.drive < r.config.ceiling →
        exec (.channelConversionEnd c input) s = .next (afterMeasurement s c
          { r with
            voteDir := .none, voteCount := 0, confirm := (adapted r d).1, run := (adapted r d).2, lastAdjust := d
            drive := if d = .up then r.drive + 1 else r.drive - 1 } s.notices))

/-- R53, R61, R71 and R80: a measurement in LIMITED that does not trip the channel, and one in IDLE, HELD or TRIPPED. -/
def Obligations.LimitedAndRestingChannelsTakeMeasurements : Prop :=
  ∀ (s : State) (c : Channel) (input : Int) (m : Nat), Delivers s c input m →
    let r : ChannelRecord := { s.channel c with measured := m, strikes := strikesNow (s.channel c) m }
    ((s.channel c).state = .limited → NoTrip (s.channel c) m →
      (r.target ≤ m + r.config.deadband →
        exec (.channelConversionEnd c input) s = .next (afterMeasurement s c
          { r with state := .track, voteDir := .none, voteCount := 0 } s.notices)) ∧
      (m + r.config.deadband < r.target →
        exec (.channelConversionEnd c input) s = .next (afterMeasurement s c r s.notices))) ∧
    ((s.channel c).state = .idle ∨ (s.channel c).state = .held ∨ (s.channel c).state = .tripped →
      exec (.channelConversionEnd c input) s =
        .next (afterMeasurement s c { s.channel c with measured := m } s.notices))

/-- R76 and R36: a measurement in RELEASING that does not trip the channel lowers the drive by the down-step, and at 0
ends the wind-down: the channel is IDLE, its release amount leaves the releasing sum, and a pass runs. -/
def Obligations.WindDownEndsInIdleAndAPass : Prop :=
  ∀ (s : State) (c : Channel) (input : Int) (m : Nat), Delivers s c input m → (s.channel c).state = .releasing →
    NoTrip (s.channel c) m →
    let r : ChannelRecord := { s.channel c with measured := m, strikes := strikesNow (s.channel c) m }
    (r.config.downStep < r.drive →
      exec (.channelConversionEnd c input) s = .next (afterMeasurement s c
        { r with drive := r.drive - r.config.downStep } s.notices)) ∧
    (r.drive ≤ r.config.downStep →
      exec (.channelConversionEnd c input) s = .next (State.allocationPass
        { s with
          scan := windowDone s c
          channels := s.channels.set c r.idled
          releases := s.releases.set c 0
          budget := { s.budget with releasing := s.budget.releasing - s.releaseOf c } }))

/-- R37, R38, R78, R79 and R81: the third strike in a row trips the channel, whichever of the two orders of R81 is taken;
and the whole action where no group watches TRIPANY. -/
def Obligations.ThirdStrikeTripsTheChannel : Prop :=
  ∀ (s : State) (c : Channel) (input : Int) (m : Nat), Delivers s c input m →
    (s.channel c).target + (s.channel c).config.guard < m → 2 ≤ (s.channel c).strikes →
    let tripped : Option Port → ChannelRecord := fun owner =>
      { s.channel c with state := .tripped, drive := 0, target := 0, holder := none, strikes := 0, measured := m,
                         tripValue := m, tripOwner := owner }
    let unwatched := ∀ g : Fin 4, (s.group g).inputs.getLsbD 5 = false
    let withTripany : State → State := fun u => { u with trip := { u.trip with inputs := u.trip.inputs ||| 0x20#10 } }
    (∀ h r, (s.channel c).state.settling = true → (s.channel c).holder = some h → (s.slot h.slot).gen = h.gen →
      s.record h.slot = some r → r.state = .granted →
      (∃ t, exec (.channelConversionEnd c input) s = .next t ∧
        t.channel c = { tripped (some r.port) with hold := (t.channel c).hold } ∧
        t.slot h.slot = ⟨(s.slot h.slot).gen + 1#8, none⟩ ∧ t.count r.port = s.count r.port - 1 ∧
        t.input .tripany = true ∧
        ∀ i, i ≠ h.slot → (t.slot i).gen = (s.slot i).gen ∧
          (t.record i).map Claim.upToState = (s.record i).map Claim.upToState) ∧
      (unwatched → TripUnitSettled s →
        exec (.channelConversionEnd c input) s = .next (withTripany (State.allocationPass
          { withGrantedLowered (withSlotFreed s h.slot r) r.amount with
            scan := windowDone s c
            channels := s.channels.set c (tripped (some r.port))
            notices := withNotice s r.port (noticeOf s .tripped c (some h) (some m)) })))) ∧
    ((s.channel c).state = .releasing →
      (∃ t, exec (.channelConversionEnd c input) s = .next t ∧
        t.channel c = { tripped none with hold := (t.channel c).hold } ∧ t.releaseOf c = 0 ∧
        t.input .tripany = true ∧
        ∀ i, (t.slot i).gen = (s.slot i).gen ∧
          (t.record i).map Claim.upToState = (s.record i).map Claim.upToState) ∧
      (unwatched → TripUnitSettled s →
        exec (.channelConversionEnd c input) s = .next (withTripany (State.allocationPass
          { s with
            scan := windowDone s c
            channels := s.channels.set c (tripped none)
            releases := s.releases.set c 0
            budget := { s.budget with releasing := s.budget.releasing - s.releaseOf c } }))))

/-! ### Trip groups -/

/-- R105 to R107 (steps 3 and 4), R69, R70, R72 and R85: when the groups take new records, every channel's hold attribute
is formed from them in ascending channel order, each channel whose attribute changes takes HOLD or UNHOLD by its state, a
wind-down that HOLD ends leaves the releasing sum, FAULT is formed, a HELD notice that names the lowest-numbered group that
newly holds the channel and a RESUMED notice are made for the holders' ports, and nothing else changes. -/
def Obligations.GroupsFormHoldsAndFault : Prop :=
  ∀ (s t : State) (after : Vector Group 4), t = s.putGroups after →
    t.trip = { s.trip with groups := after, fault := someGroupHolds after } ∧
    (∀ c, t.channel c =
      if heldBy after c = (s.channel c).hold then s.channel c
      else if heldBy after c then (s.channel c).whenHeld else (s.channel c).whenResumed) ∧
    (∀ c, t.releaseOf c =
      if heldBy after c = true ∧ (s.channel c).hold = false ∧ (s.channel c).state = .releasing then 0
      else s.releaseOf c) ∧
    t.budget.releasing = s.budget.releasing -
      ((List.finRange 12).map fun c : Channel =>
        if heldBy after c = true ∧ (s.channel c).hold = false ∧ (s.channel c).state = .releasing then s.releaseOf c
        else 0).sum ∧
    (∀ p, (s.session p).state ≠ .opened → t.noticesOf p = s.noticesOf p) ∧
    ((∀ c, (s.channel c).hold = heldBy s.trip.groups c) →
      ∀ p, t.noticesOf p = s.noticesAfter p ((List.finRange 12).map (holdNotice s after p)).flatten) ∧
    t = { s with trip := t.trip, channels := t.channels, releases := t.releases, notices := t.notices
                 budget := { s.budget with releasing := t.budget.releasing } }

/-- R102, R104, R105 and R110: an input event changes each group's state by the table, and a pass ends the action where a
HOLD has ended a wind-down; FLT_PIN_CHANGE takes one where the pin's asserted state changes, and SOFT TRIP where the
sending port's soft bit changes. -/
def Obligations.InputEventFollowsTheGroupTable : Prop :=
  ∀ (s : State) (i : TripInput) (v : Bool),
    let inputs := setInput s.trip.inputs i v
    let after : Vector Group 4 := Vector.ofFn fun g =>
      { s.group g with state := tableState (s.group g).state (s.group g).mode (conditionOf (s.group g) inputs) }
    let placed := State.putGroups { s with trip := { s.trip with inputs := inputs } } after
    (∀ j, j.number < 10 ∧ inputs.getLsbD j.number = if j = i then v else s.input j) ∧
    s.inputEvent i v = (if endsWindDown s after then placed.allocationPass else placed) ∧
    (∀ (pin : FltPin) (level : Bool), s.resetHeld = false →
      let on : Bool := match s.trip.fltPolarity[pin] with | .activeLow => !level | .activeHigh => level
      let sampled : State := { s with trip := { s.trip with fltLevel := s.trip.fltLevel.set pin level } }
      (on = s.input (.flt pin) → exec (.fltPinChange pin level) s = .next sampled) ∧
      (on ≠ s.input (.flt pin) → exec (.fltPinChange pin level) s = .next (sampled.inputEvent (.flt pin) on))) ∧
    ∀ (p : Port) (c : Command), TakenOpen s p c 0x22#8 → flagOperand c.payload = some v →
      ((s.session p).soft = v → exec .softTrip s = .next (s.answered p c .ok [])) ∧
      ((s.session p).soft ≠ v →
        exec .softTrip s = .next ((State.inputEvent
          { s with sessions := s.sessions.set p { s.session p with soft := v } } (.soft p) v).answered p c .ok []))

/-- R108 and R109: SET GROUP stores the three fields and settles the group's state by its table; CLEAR GROUP accepts IDLE
and LATCHED, and refuses ACTIVE. -/
def Obligations.GroupCommandsFollowTheirTables : Prop :=
  ∀ (s : State) (p : Port) (c : Command),
    (TakenSupervisor s p c 0x46#8 → ∀ o, groupOperands c.payload = some o →
      let g := s.group o.group
      let new : Group :=
        { inputs := o.inputs, targets := o.targets, mode := o.mode
          state := tableState g.state o.mode (conditionOf { g with inputs := o.inputs } s.trip.inputs) }
      let after := s.trip.groups.set o.group new
      exec .setGroup s = .next (State.answered
        (if endsWindDown s after then (s.putGroups after).allocationPass else s.putGroups after) p c .ok [])) ∧
    (TakenSupervisor s p c 0x47#8 → ∀ k, groupOperand c.payload = some k →
      ((s.group k).state = .idle → exec .clearGroup s = .next (s.answered p c .ok [])) ∧
      ((s.group k).state = .active → exec .clearGroup s = .next (s.refused p c .stillActive)) ∧
      ((s.group k).state = .latched →
        let after := s.trip.groups.set k { s.group k with state := .idle }
        exec .clearGroup s = .next (State.answered
          (if endsWindDown s after then (s.putGroups after).allocationPass else s.putGroups after) p c .ok [])))

/-- R103: SET PINS stores the five polarities; each FLT input and DERATE's asserted state then follow them, whatever the
order in which the pins are taken, which R103 leaves open (notes/assumptions/3.md); with no asserted state changed,
nothing else changes. -/
def Obligations.SetPinsFollowsTheNewPolarities : Prop :=
  ∀ (s : State) (p : Port) (c : Command) (o : PinOperands), TakenSupervisor s p c 0x48#8 →
    pinOperands c.payload = some o → TripUnitSettled s →
    let on : Polarity → Bool → Bool := fun pol level => match pol with | .activeLow => !level | .activeHigh => level
    ((∀ i : FltPin, on o.flt[i] s.trip.fltLevel[i] = s.input (.flt i)) →
      on o.derate s.budget.derateLevel = s.budget.derateOn →
      exec .setPins s = .next (State.answered
        { s with trip := { s.trip with fltPolarity := o.flt }, budget := { s.budget with deratePolarity := o.derate } }
        p c .ok [])) ∧
    ∃ t : State, exec .setPins s = .next (t.answered p c .ok []) ∧ TripUnitSettled t ∧
      t.trip.fltPolarity = o.flt ∧ t.trip.fltLevel = s.trip.fltLevel ∧
      (∀ i : FltPin, t.input (.flt i) = on o.flt[i] s.trip.fltLevel[i]) ∧
      t.input .rail = s.input .rail ∧ t.input .tripany = s.input .tripany ∧
      (∀ q, t.input (.soft q) = s.input (.soft q)) ∧
      (∀ g, t.group g =
        { s.group g with
          state := tableState (s.group g).state (s.group g).mode (conditionOf (s.group g) t.trip.inputs) }) ∧
      t.budget =
        { s.budget with
          deratePolarity := o.derate
          derateOn := on o.derate s.budget.derateLevel
          effective :=
            if on o.derate s.budget.derateLevel = s.budget.derateOn then s.budget.effective
            else if s.budget.derateOn then s.budget.normal else min s.budget.normal s.budget.derated
          granted := t.budget.granted
          releasing := t.budget.releasing } ∧
      (∀ i, (t.slot i).gen = (s.slot i).gen ∧
        (t.record i).map Claim.upToShed = (s.record i).map Claim.upToShed) ∧
      (∀ ch, (t.channel ch).config = (s.channel ch).config ∧ (t.channel ch).tripOwner = (s.channel ch).tripOwner) ∧
      t = { s with slots := t.slots, budget := t.budget, releases := t.releases, channels := t.channels,
                   trip := t.trip, notices := t.notices, choice := t.choice }

/-- R82, R83 and R112: the tests of CLEAR TRIP; and, accepted, the channel is IDLE, TRIPANY falls where it was the last,
and a pass runs. That the fall of TRIPANY is taken before the pass is the model's reading (notes/assumptions/17.md). -/
def Obligations.ClearTripFreesTheChannel : Prop :=
  ∀ (s : State) (p : Port) (c : Command) (ch : Channel), TakenOpen s p c 0x21#8 → channelOperand c.payload = some ch →
    let cleared : State := { s with channels := s.channels.set ch { (s.channel ch).idled with tripOwner := none } }
    ((s.channel ch).state ≠ .tripped → exec .clearTrip s = .next (s.refused p c .state)) ∧
    ((s.channel ch).state = .tripped → (s.session p).supervisor = false → (s.channel ch).tripOwner ≠ some p →
      exec .clearTrip s = .next (s.refused p c .notOwner)) ∧
    ((s.channel ch).state = .tripped → (s.session p).supervisor = true ∨ (s.channel ch).tripOwner = some p →
      ((∃ d, d ≠ ch ∧ (s.channel d).state = .tripped) → s.input .tripany = true →
        exec .clearTrip s = .next (cleared.allocationPass.answered p c .ok [])) ∧
      ((∀ d, d ≠ ch → (s.channel d).state ≠ .tripped) → s.input .tripany = true →
        exec .clearTrip s = .next ((cleared.inputEvent .tripany false).allocationPass.answered p c .ok [])))

/-! ### The rail -/

/-- R89, R93, R94 and R96: a rail conversion stores the scaled value and sets the flag where the value exceeds a non-zero
limit, which the trip unit takes as the rise of RAIL; CLEAR RAIL clears the flag unless the latest value is above the
limit. -/
def Obligations.RailFlagFollowsTheLimit : Prop :=
  ∀ s : State,
    (∀ input : Int, s.resetHeld = false →
      let m := min 4095 (min 4095 input.toNat * s.scan.railGain / 1024)
      let measured : Scanner := { s.scan with railValue := m, position := 13 }
      ((s.scan.railLimit = 0 ∨ m ≤ s.scan.railLimit) ∨ s.scan.railFlag = true →
        exec (.railConversionEnd input) s = .next { s with scan := measured }) ∧
      (0 < s.scan.railLimit → s.scan.railLimit < m → s.scan.railFlag = false →
        exec (.railConversionEnd input) s =
          .next (State.inputEvent { s with scan := { measured with railFlag := true } } .rail true))) ∧
    ∀ (p : Port) (c : Command), TakenOpen s p c 0x45#8 → c.payload = [] →
      ((s.session p).supervisor = false → exec .clearRail s = .next (s.refused p c .notSupervisor)) ∧
      ((s.session p).supervisor = true → 0 < s.scan.railLimit → s.scan.railLimit < s.scan.railValue →
        exec .clearRail s = .next (s.refused p c .stillHigh)) ∧
      ((s.session p).supervisor = true → s.scan.railLimit = 0 ∨ s.scan.railValue ≤ s.scan.railLimit →
        (s.scan.railFlag = false → exec .clearRail s = .next (s.answered p c .ok [])) ∧
        (s.scan.railFlag = true →
          exec .clearRail s = .next ((State.inputEvent { s with scan := { s.scan with railFlag := false } }
            .rail false).answered p c .ok [])))

/-! ### Settings -/

/-- R87, R88, R95 and R130: SET SCAN's period takes force at the next cycle start, which raises the counter; SET RAIL and
SET QUOTA store their values. -/
def Obligations.ScanRailAndQuotaSettingsAreStored : Prop :=
  ∀ s : State,
    (s.resetHeld = false →
      exec .scanCycleStart s = .next { s with scan :=
        { s.scan with counter := s.scan.counter + 1#16, period := s.scan.pendingPeriod.getD s.scan.period,
                      pendingPeriod := none, position := 0 } }) ∧
    ∀ (p : Port) (c : Command),
      (TakenSupervisor s p c 0x43#8 → ∀ n, scanOperand c.payload = some n →
        exec .setScan s = .next (State.answered { s with scan := { s.scan with pendingPeriod := some n } } p c .ok [])) ∧
      (TakenSupervisor s p c 0x44#8 → ∀ n g, railOperands c.payload = some (n, g) →
        exec .setRail s =
          .next (State.answered { s with scan := { s.scan with railLimit := n, railGain := g } } p c .ok [])) ∧
      (TakenSupervisor s p c 0x49#8 → ∀ o, quotaOperands c.payload = some o →
        exec .setQuota s = .next (State.answered
          { s with sessions := s.sessions.set o.port { s.session o.port with quota := o.quota, floor := o.floor } }
          p c .ok []))

/-- R46, R47, R64, R65 and R91: SET CHANNEL LOOP sets its six fields and restarts the channel's window in IDLE or TRIPPED
with no claim record that names the channel, and is refused CHANNEL_BUSY otherwise; SET CHANNEL LIMITS sets its four
fields in every state, and the new ceiling clips the drive or ends the settle state as the tables give. -/
def Obligations.ChannelConfigurationCommandsFollowTheirTables : Prop :=
  ∀ (s : State) (p : Port) (c : Command),
    (∀ o, TakenSupervisor s p c 0x41#8 → loopOperands c.payload = some o →
      let r := s.channel o.channel
      let claimed := ∃ i, (s.record i).map Claim.channel = some o.channel
      (r.state = .idle ∨ r.state = .tripped → ¬ claimed →
        exec .setChannelLoop s = .next (State.answered
          { s with
            channels := s.channels.set o.channel { r with config :=
              { r.config with enable := o.enable, start := o.start, rampStep := o.rampStep, downStep := o.downStep,
                              deadband := o.deadband, averaging := o.averaging } }
            scan := { s.scan with windows := s.scan.windows.set o.channel ⟨0, 0⟩ } }
          p c .ok [])) ∧
      ((r.state ≠ .idle ∧ r.state ≠ .tripped) ∨ claimed →
        exec .setChannelLoop s = .next (s.refused p c .channelBusy))) ∧
    ∀ o, TakenSupervisor s p c 0x42#8 → limitsOperands c.payload = some o →
      let old := s.channel o.channel
      let r : ChannelRecord :=
        { old with config :=
          { old.config with rating := o.rating, ceiling := o.ceiling, guard := o.guard, gain := o.gain } }
      let become : ChannelRecord → Prop := fun x =>
        exec .setChannelLimits s = .next (State.answered { s with channels := s.channels.set o.channel x } p c .ok [])
      let ends : Prop := (old.state = .bisect ∧ o.ceiling < old.config.ceiling ∧ o.ceiling < old.hi) ∨
        (old.state = .limited ∧ old.config.ceiling < o.ceiling)
      (o.ceiling < old.drive → old.state.settling = true →
        become { r with drive := o.ceiling, state := .track, voteDir := .none, voteCount := 0 }) ∧
      (o.ceiling < old.drive → old.state = .releasing → become { r with drive := o.ceiling }) ∧
      (old.drive ≤ o.ceiling → ends →
        become { r with state := .track, voteDir := .none, voteCount := 0 }) ∧
      (old.drive ≤ o.ceiling → ¬ ends → become r)

/-- R19, R41, R86, R99, R113, R129, R140, R156 and R169: what RESTART leaves, block by block. The order of the blocks is
the model's reading of R169 (notes/assumptions/21.md). -/
def Obligations.RestartClearsRunTimeState : Prop :=
  ∀ (s : State) (p : Port) (c : Command), TakenSupervisor s p c 0x4C#8 → c.payload = [] →
    ∃ t : State, exec .restart s = .next (t.answered p c .ok []) ∧
      (∀ i, t.slot i = if (s.record i).isSome then ⟨(s.slot i).gen + 1#8, none⟩ else s.slot i) ∧
      t.stamp = 0 ∧ (∀ q, t.count q = 0) ∧ t.budget = { s.budget with granted := 0, releasing := 0 } ∧
      (∀ ch, t.releaseOf ch = 0) ∧
      (∀ ch, t.channel ch =
        { s.channel ch with
          state := .idle, drive := 0, target := 0, holder := none, lastBelow := 0, lo := 0, hi := 0, voteDir := .none,
          voteCount := 0, confirm := 2, run := 0, lastAdjust := .none, strikes := 0, settled := false,
          tripOwner := none, tripValue := 0, hold := heldBy t.trip.groups ch }) ∧
      t.scan = { s.scan with windows := Vector.replicate 12 ⟨0, 0⟩, railFlag := false } ∧
      (∀ i : FltPin, t.input (.flt i) = s.input (.flt i)) ∧
      t.input .rail = false ∧ t.input .tripany = false ∧ (∀ q, t.input (.soft q) = false) ∧
      (∀ g, t.group g =
        { s.group g with state := if conditionOf (s.group g) t.trip.inputs then .active else .idle }) ∧
      t.trip = { s.trip with inputs := t.trip.inputs, groups := t.trip.groups, fault := someGroupHolds t.trip.groups } ∧
      (∀ q, t.session q =
        if (s.session q).state = .opened then
          { s.session q with state := if q = p then .closed else .lapsed, current := none, next := none,
                             remaining := 0, warned := false, soft := false }
        else { s.session q with soft := false }) ∧
      (∀ q, t.noticesOf q = ⟨[], 0#16, 0, false⟩) ∧
      (∀ q, t.port q =
        if q ≠ p ∧ (s.session q).state = .opened then waitingDiscarded (s.port q)
        else if q = p then { s.port p with command := none } else s.port q) ∧
      t = { s with slots := t.slots, stamp := 0, counts := t.counts, budget := t.budget, releases := t.releases,
                   channels := t.channels, scan := t.scan, trip := t.trip, sessions := t.sessions,
                   notices := t.notices, ports := t.ports, cause := .restart, pointer := t.pointer }

/-! ### Drive outputs -/

/-- R171 and R172: a frame start takes each channel's drive level; a slot start adds the residue to the accumulator and
makes an extended slot where the sum reaches 64. -/
def Obligations.ModulatorsTakeFrameAndSlotStarts : Prop :=
  ∀ s : State, s.resetHeld = false →
    exec .frameStart s = .next { s with
      modulators := Vector.ofFn fun c => { s.modulators[c] with level := (s.channel c).drive }, frameSlot := 0 } ∧
    exec .slotStart s = .next { s with
      modulators := Vector.ofFn fun c =>
        let x := s.modulators[c]
        if x.acc + x.level % 64 < 64 then { x with acc := x.acc + x.level % 64, high := x.level / 64 }
        else { x with acc := x.acc + x.level % 64 - 64, high := x.level / 64 + 1 }
      frameSlot := s.frameSlot + 1 } ∧
    ∀ (c : Channel) (clock : Nat), s.drvPin c clock = decide (clock < (s.modulators[c]).high)

/-- R171: a slot start adds the residue to the accumulator, and the pin is high for q clocks from the start of a plain slot
and for q + 1 of an extended one; over the 64 slots of a frame, whatever the accumulator it starts with, the pin is high
for as many clocks as the output level, in as many extended slots as the residue; each slot's high time is q or q + 1 and
the accumulator stays below 64. -/
def Obligations.FrameHighTimeEqualsTheLevel : Prop :=
  (∀ x : Modulator, x.startSlot =
    if 64 ≤ x.acc + x.level % 64 then { x with acc := x.acc + x.level % 64 - 64, high := x.level / 64 + 1 }
    else { x with acc := x.acc + x.level % 64, high := x.level / 64 }) ∧
  (∀ (s : State) (c : Channel) (clock : Nat), s.resetHeld = false →
    (s.drvPin c clock = true ↔ clock < (s.modulators[c]).high)) ∧
  ∀ x : Modulator, x.acc < 64 → x.level ≤ 4095 →
    x.highTime 64 = x.level ∧ x.extendedSlots 64 = x.level % 64 ∧ (x.after 64).level = x.level ∧
      ∀ n, (x.after n).acc < 64 ∧
        ((x.after (n + 1)).high = x.level / 64 ∨ (x.after (n + 1)).high = x.level / 64 + 1) ∧
        (x.after (n + 1)).high ≤ 64
end

