-- ==== Sys2Proof/Laws/State.lean ====
section
/-! SUPPORT. Lemmas about State's tables: what a table holds after one entry is replaced, and, for each field and each
update of Machine/Ops.lean, what the field then is. -/

namespace Sys2Proof.Machine

/-! ### Per-port tables -/

@[simp] theorem PerPort.get_set_self {α : Type} (t : PerPort α) (p : Port) (x : α) : (t.set p x).get p = x := by
  cases p <;> rfl

theorem PerPort.get_set_ne {α : Type} (t : PerPort α) {p q : Port} (x : α) (h : q ≠ p) : (t.set p x).get q = t.get q := by
  cases p <;> cases q <;> first | rfl | exact absurd rfl h

theorem PerPort.get_set {α : Type} (t : PerPort α) (p q : Port) (x : α) :
    (t.set p x).get q = if q = p then x else t.get q := by
  cases p <;> cases q <;> rfl

@[simp] theorem PerPort.set_set {α : Type} (t : PerPort α) (p : Port) (x y : α) : (t.set p x).set p y = t.set p y := by
  cases p <;> rfl

@[simp] theorem PerPort.set_get {α : Type} (t : PerPort α) (p : Port) : t.set p (t.get p) = t := by
  cases p <;> rfl

theorem PerPort.set_comm {α : Type} (t : PerPort α) {p q : Port} (x y : α) (h : p ≠ q) :
    (t.set p x).set q y = (t.set q y).set p x := by
  cases p <;> cases q <;> first | rfl | exact absurd rfl h

@[simp] theorem PerPort.get_const {α : Type} (x : α) (p : Port) : (PerPort.const x).get p = x := by
  cases p <;> rfl

theorem PerPort.ext_get {α : Type} {t u : PerPort α} (h : ∀ p, t.get p = u.get p) : t = u := by
  cases t; cases u
  simp only [PerPort.mk.injEq]
  exact ⟨h .A, h .B, h .C, h .D⟩

@[simp] theorem mem_allPorts (p : Port) : p ∈ allPorts := by cases p <;> simp [allPorts]

@[simp] theorem mem_allSlots (i : Fin 24) : i ∈ allSlots := List.mem_finRange i

@[simp] theorem mem_allChannels (c : Channel) : c ∈ allChannels := List.mem_finRange c

/-! ### The entry that an update replaces -/

@[simp] theorem State.slot_setSlot_self (s : State) (i : Fin 24) (x : Slot) : (s.setSlot i x).slot i = x := by
  simp [State.slot, State.setSlot]

theorem State.slot_setSlot_ne (s : State) {i j : Fin 24} (x : Slot) (h : j ≠ i) :
    (s.setSlot i x).slot j = s.slot j := by
  simp only [State.slot, State.setSlot]
  exact Vector.getElem_set_ne _ _ fun e => h (Fin.ext e.symm)

theorem State.slot_setSlot (s : State) (i j : Fin 24) (x : Slot) :
    (s.setSlot i x).slot j = if j = i then x else s.slot j := by
  split
  · subst_vars; simp
  · exact State.slot_setSlot_ne s x ‹_›

@[simp] theorem State.channel_setChannel_self (s : State) (c : Channel) (x : ChannelRecord) : (s.setChannel c x).channel c = x := by
  simp [State.channel, State.setChannel]

theorem State.channel_setChannel_ne (s : State) {c j : Channel} (x : ChannelRecord) (h : j ≠ c) :
    (s.setChannel c x).channel j = s.channel j := by
  simp only [State.channel, State.setChannel]
  exact Vector.getElem_set_ne _ _ fun e => h (Fin.ext e.symm)

theorem State.channel_setChannel (s : State) (c j : Channel) (x : ChannelRecord) :
    (s.setChannel c x).channel j = if j = c then x else s.channel j := by
  split
  · subst_vars; simp
  · exact State.channel_setChannel_ne s x ‹_›

@[simp] theorem State.releaseOf_setRelease_self (s : State) (c : Channel) (n : Nat) : (s.setRelease c n).releaseOf c = n := by
  simp [State.releaseOf, State.setRelease]

theorem State.releaseOf_setRelease_ne (s : State) {c j : Channel} (n : Nat) (h : j ≠ c) :
    (s.setRelease c n).releaseOf j = s.releaseOf j := by
  simp only [State.releaseOf, State.setRelease]
  exact Vector.getElem_set_ne _ _ fun e => h (Fin.ext e.symm)

theorem State.releaseOf_setRelease (s : State) (c j : Channel) (n : Nat) :
    (s.setRelease c n).releaseOf j = if j = c then n else s.releaseOf j := by
  split
  · subst_vars; simp
  · exact State.releaseOf_setRelease_ne s n ‹_›

@[simp] theorem State.record_setSlot_self (s : State) (i : Fin 24) (x : Slot) : (s.setSlot i x).record i = x.record := by
  simp [State.record]

theorem State.record_setSlot_ne (s : State) {i j : Fin 24} (x : Slot) (h : j ≠ i) : (s.setSlot i x).record j = s.record j := by
  simp [State.record, State.slot_setSlot_ne s x h]

@[simp] theorem State.session_setSession_self (s : State) (p : Port) (x : Session) : (s.setSession p x).session p = x :=
  PerPort.get_set_self _ p x

theorem State.session_setSession_ne (s : State) {p q : Port} (x : Session) (h : q ≠ p) : (s.setSession p x).session q = s.session q :=
  PerPort.get_set_ne _ x h

theorem State.session_setSession (s : State) (p q : Port) (x : Session) : (s.setSession p x).session q = if q = p then x else s.session q :=
  PerPort.get_set _ p q x

@[simp] theorem State.setSession_setSession (s : State) (p : Port) (x y : Session) : (s.setSession p x).setSession p y = s.setSession p y := by
  simp [State.setSession]

@[simp] theorem State.setSession_session (s : State) (p : Port) : s.setSession p (s.session p) = s := by
  simp [State.setSession, State.session]

@[simp] theorem State.noticesOf_setNotices_self (s : State) (p : Port) (x : NoticeQueue) : (s.setNotices p x).noticesOf p = x :=
  PerPort.get_set_self _ p x

theorem State.noticesOf_setNotices_ne (s : State) {p q : Port} (x : NoticeQueue) (h : q ≠ p) : (s.setNotices p x).noticesOf q = s.noticesOf q :=
  PerPort.get_set_ne _ x h

theorem State.noticesOf_setNotices (s : State) (p q : Port) (x : NoticeQueue) : (s.setNotices p x).noticesOf q = if q = p then x else s.noticesOf q :=
  PerPort.get_set _ p q x

@[simp] theorem State.setNotices_setNotices (s : State) (p : Port) (x y : NoticeQueue) : (s.setNotices p x).setNotices p y = s.setNotices p y := by
  simp [State.setNotices]

@[simp] theorem State.setNotices_noticesOf (s : State) (p : Port) : s.setNotices p (s.noticesOf p) = s := by
  simp [State.setNotices, State.noticesOf]

@[simp] theorem State.port_setPort_self (s : State) (p : Port) (x : PortState) : (s.setPort p x).port p = x :=
  PerPort.get_set_self _ p x

theorem State.port_setPort_ne (s : State) {p q : Port} (x : PortState) (h : q ≠ p) : (s.setPort p x).port q = s.port q :=
  PerPort.get_set_ne _ x h

theorem State.port_setPort (s : State) (p q : Port) (x : PortState) : (s.setPort p x).port q = if q = p then x else s.port q :=
  PerPort.get_set _ p q x

@[simp] theorem State.setPort_setPort (s : State) (p : Port) (x y : PortState) : (s.setPort p x).setPort p y = s.setPort p y := by
  simp [State.setPort]

@[simp] theorem State.setPort_port (s : State) (p : Port) : s.setPort p (s.port p) = s := by
  simp [State.setPort, State.port]

@[simp] theorem State.count_setCount_self (s : State) (p : Port) (x : Nat) : (s.setCount p x).count p = x :=
  PerPort.get_set_self _ p x

theorem State.count_setCount_ne (s : State) {p q : Port} (x : Nat) (h : q ≠ p) : (s.setCount p x).count q = s.count q :=
  PerPort.get_set_ne _ x h

theorem State.count_setCount (s : State) (p q : Port) (x : Nat) : (s.setCount p x).count q = if q = p then x else s.count q :=
  PerPort.get_set _ p q x

@[simp] theorem State.setCount_setCount (s : State) (p : Port) (x y : Nat) : (s.setCount p x).setCount p y = s.setCount p y := by
  simp [State.setCount]

@[simp] theorem State.setCount_count (s : State) (p : Port) : s.setCount p (s.count p) = s := by
  simp [State.setCount, State.count]

/-! ### `setSlot`, field by field -/

@[simp] theorem State.setSlot_slots (s : State) (i : Fin 24) (x : Slot) : (s.setSlot i x).slots = s.slots.set i x := rfl

@[simp] theorem State.setSlot_stamp (s : State) (i : Fin 24) (x : Slot) : (s.setSlot i x).stamp = s.stamp := rfl

@[simp] theorem State.setSlot_counts (s : State) (i : Fin 24) (x : Slot) : (s.setSlot i x).counts = s.counts := rfl

@[simp] theorem State.setSlot_budget (s : State) (i : Fin 24) (x : Slot) : (s.setSlot i x).budget = s.budget := rfl

@[simp] theorem State.setSlot_releases (s : State) (i : Fin 24) (x : Slot) :
    (s.setSlot i x).releases = s.releases := rfl

@[simp] theorem State.setSlot_channels (s : State) (i : Fin 24) (x : Slot) :
    (s.setSlot i x).channels = s.channels := rfl

@[simp] theorem State.setSlot_scan (s : State) (i : Fin 24) (x : Slot) : (s.setSlot i x).scan = s.scan := rfl

@[simp] theorem State.setSlot_trip (s : State) (i : Fin 24) (x : Slot) : (s.setSlot i x).trip = s.trip := rfl

@[simp] theorem State.setSlot_sessions (s : State) (i : Fin 24) (x : Slot) :
    (s.setSlot i x).sessions = s.sessions := rfl

@[simp] theorem State.setSlot_notices (s : State) (i : Fin 24) (x : Slot) : (s.setSlot i x).notices = s.notices := rfl

@[simp] theorem State.setSlot_ports (s : State) (i : Fin 24) (x : Slot) : (s.setSlot i x).ports = s.ports := rfl

@[simp] theorem State.setSlot_pointer (s : State) (i : Fin 24) (x : Slot) : (s.setSlot i x).pointer = s.pointer := rfl

@[simp] theorem State.setSlot_cause (s : State) (i : Fin 24) (x : Slot) : (s.setSlot i x).cause = s.cause := rfl

@[simp] theorem State.setSlot_modulators (s : State) (i : Fin 24) (x : Slot) :
    (s.setSlot i x).modulators = s.modulators := rfl

@[simp] theorem State.setSlot_frameSlot (s : State) (i : Fin 24) (x : Slot) :
    (s.setSlot i x).frameSlot = s.frameSlot := rfl

@[simp] theorem State.setSlot_resetHeld (s : State) (i : Fin 24) (x : Slot) :
    (s.setSlot i x).resetHeld = s.resetHeld := rfl

@[simp] theorem State.setSlot_choice (s : State) (i : Fin 24) (x : Slot) : (s.setSlot i x).choice = s.choice := rfl

@[simp] theorem State.setSlot_pending (s : State) (i : Fin 24) (x : Slot) : (s.setSlot i x).pending = s.pending := rfl

@[simp] theorem State.channel_of_setSlot (s : State) (i : Fin 24) (x : Slot) (d : Channel) :
    (s.setSlot i x).channel d = s.channel d := rfl

@[simp] theorem State.releaseOf_of_setSlot (s : State) (i : Fin 24) (x : Slot) (d : Channel) :
    (s.setSlot i x).releaseOf d = s.releaseOf d := rfl

@[simp] theorem State.group_of_setSlot (s : State) (i : Fin 24) (x : Slot) (g : Fin 4) :
    (s.setSlot i x).group g = s.group g := rfl

@[simp] theorem State.session_of_setSlot (s : State) (i : Fin 24) (x : Slot) (q : Port) :
    (s.setSlot i x).session q = s.session q := rfl

@[simp] theorem State.noticesOf_of_setSlot (s : State) (i : Fin 24) (x : Slot) (q : Port) :
    (s.setSlot i x).noticesOf q = s.noticesOf q := rfl

@[simp] theorem State.port_of_setSlot (s : State) (i : Fin 24) (x : Slot) (q : Port) :
    (s.setSlot i x).port q = s.port q := rfl

@[simp] theorem State.count_of_setSlot (s : State) (i : Fin 24) (x : Slot) (q : Port) :
    (s.setSlot i x).count q = s.count q := rfl

/-! ### `setChannel`, field by field -/

@[simp] theorem State.setChannel_slots (s : State) (c : Channel) (x : ChannelRecord) :
    (s.setChannel c x).slots = s.slots := rfl

@[simp] theorem State.setChannel_stamp (s : State) (c : Channel) (x : ChannelRecord) :
    (s.setChannel c x).stamp = s.stamp := rfl

@[simp] theorem State.setChannel_counts (s : State) (c : Channel) (x : ChannelRecord) :
    (s.setChannel c x).counts = s.counts := rfl

@[simp] theorem State.setChannel_budget (s : State) (c : Channel) (x : ChannelRecord) :
    (s.setChannel c x).budget = s.budget := rfl

@[simp] theorem State.setChannel_releases (s : State) (c : Channel) (x : ChannelRecord) :
    (s.setChannel c x).releases = s.releases := rfl

@[simp] theorem State.setChannel_channels (s : State) (c : Channel) (x : ChannelRecord) :
    (s.setChannel c x).channels = s.channels.set c x := rfl

@[simp] theorem State.setChannel_scan (s : State) (c : Channel) (x : ChannelRecord) :
    (s.setChannel c x).scan = s.scan := rfl

@[simp] theorem State.setChannel_trip (s : State) (c : Channel) (x : ChannelRecord) :
    (s.setChannel c x).trip = s.trip := rfl

@[simp] theorem State.setChannel_sessions (s : State) (c : Channel) (x : ChannelRecord) :
    (s.setChannel c x).sessions = s.sessions := rfl

@[simp] theorem State.setChannel_notices (s : State) (c : Channel) (x : ChannelRecord) :
    (s.setChannel c x).notices = s.notices := rfl

@[simp] theorem State.setChannel_ports (s : State) (c : Channel) (x : ChannelRecord) :
    (s.setChannel c x).ports = s.ports := rfl

@[simp] theorem State.setChannel_pointer (s : State) (c : Channel) (x : ChannelRecord) :
    (s.setChannel c x).pointer = s.pointer := rfl

@[simp] theorem State.setChannel_cause (s : State) (c : Channel) (x : ChannelRecord) :
    (s.setChannel c x).cause = s.cause := rfl

@[simp] theorem State.setChannel_modulators (s : State) (c : Channel) (x : ChannelRecord) :
    (s.setChannel c x).modulators = s.modulators := rfl

@[simp] theorem State.setChannel_frameSlot (s : State) (c : Channel) (x : ChannelRecord) :
    (s.setChannel c x).frameSlot = s.frameSlot := rfl

@[simp] theorem State.setChannel_resetHeld (s : State) (c : Channel) (x : ChannelRecord) :
    (s.setChannel c x).resetHeld = s.resetHeld := rfl

@[simp] theorem State.setChannel_choice (s : State) (c : Channel) (x : ChannelRecord) :
    (s.setChannel c x).choice = s.choice := rfl

@[simp] theorem State.setChannel_pending (s : State) (c : Channel) (x : ChannelRecord) :
    (s.setChannel c x).pending = s.pending := rfl

@[simp] theorem State.slot_of_setChannel (s : State) (c : Channel) (x : ChannelRecord) (j : Fin 24) :
    (s.setChannel c x).slot j = s.slot j := rfl

@[simp] theorem State.record_of_setChannel (s : State) (c : Channel) (x : ChannelRecord) (j : Fin 24) :
    (s.setChannel c x).record j = s.record j := rfl

@[simp] theorem State.releaseOf_of_setChannel (s : State) (c : Channel) (x : ChannelRecord) (d : Channel) :
    (s.setChannel c x).releaseOf d = s.releaseOf d := rfl

@[simp] theorem State.group_of_setChannel (s : State) (c : Channel) (x : ChannelRecord) (g : Fin 4) :
    (s.setChannel c x).group g = s.group g := rfl

@[simp] theorem State.session_of_setChannel (s : State) (c : Channel) (x : ChannelRecord) (q : Port) :
    (s.setChannel c x).session q = s.session q := rfl

@[simp] theorem State.noticesOf_of_setChannel (s : State) (c : Channel) (x : ChannelRecord) (q : Port) :
    (s.setChannel c x).noticesOf q = s.noticesOf q := rfl

@[simp] theorem State.port_of_setChannel (s : State) (c : Channel) (x : ChannelRecord) (q : Port) :
    (s.setChannel c x).port q = s.port q := rfl

@[simp] theorem State.count_of_setChannel (s : State) (c : Channel) (x : ChannelRecord) (q : Port) :
    (s.setChannel c x).count q = s.count q := rfl

/-! ### `setRelease`, field by field -/

@[simp] theorem State.setRelease_slots (s : State) (c : Channel) (n : Nat) : (s.setRelease c n).slots = s.slots := rfl

@[simp] theorem State.setRelease_stamp (s : State) (c : Channel) (n : Nat) : (s.setRelease c n).stamp = s.stamp := rfl

@[simp] theorem State.setRelease_counts (s : State) (c : Channel) (n : Nat) :
    (s.setRelease c n).counts = s.counts := rfl

@[simp] theorem State.setRelease_budget (s : State) (c : Channel) (n : Nat) :
    (s.setRelease c n).budget = s.budget := rfl

@[simp] theorem State.setRelease_releases (s : State) (c : Channel) (n : Nat) :
    (s.setRelease c n).releases = s.releases.set c n := rfl

@[simp] theorem State.setRelease_channels (s : State) (c : Channel) (n : Nat) :
    (s.setRelease c n).channels = s.channels := rfl

@[simp] theorem State.setRelease_scan (s : State) (c : Channel) (n : Nat) : (s.setRelease c n).scan = s.scan := rfl

@[simp] theorem State.setRelease_trip (s : State) (c : Channel) (n : Nat) : (s.setRelease c n).trip = s.trip := rfl

@[simp] theorem State.setRelease_sessions (s : State) (c : Channel) (n : Nat) :
    (s.setRelease c n).sessions = s.sessions := rfl

@[simp] theorem State.setRelease_notices (s : State) (c : Channel) (n : Nat) :
    (s.setRelease c n).notices = s.notices := rfl

@[simp] theorem State.setRelease_ports (s : State) (c : Channel) (n : Nat) : (s.setRelease c n).ports = s.ports := rfl

@[simp] theorem State.setRelease_pointer (s : State) (c : Channel) (n : Nat) :
    (s.setRelease c n).pointer = s.pointer := rfl

@[simp] theorem State.setRelease_cause (s : State) (c : Channel) (n : Nat) : (s.setRelease c n).cause = s.cause := rfl

@[simp] theorem State.setRelease_modulators (s : State) (c : Channel) (n : Nat) :
    (s.setRelease c n).modulators = s.modulators := rfl

@[simp] theorem State.setRelease_frameSlot (s : State) (c : Channel) (n : Nat) :
    (s.setRelease c n).frameSlot = s.frameSlot := rfl

@[simp] theorem State.setRelease_resetHeld (s : State) (c : Channel) (n : Nat) :
    (s.setRelease c n).resetHeld = s.resetHeld := rfl

@[simp] theorem State.setRelease_choice (s : State) (c : Channel) (n : Nat) :
    (s.setRelease c n).choice = s.choice := rfl

@[simp] theorem State.setRelease_pending (s : State) (c : Channel) (n : Nat) :
    (s.setRelease c n).pending = s.pending := rfl

@[simp] theorem State.slot_of_setRelease (s : State) (c : Channel) (n : Nat) (j : Fin 24) :
    (s.setRelease c n).slot j = s.slot j := rfl

@[simp] theorem State.record_of_setRelease (s : State) (c : Channel) (n : Nat) (j : Fin 24) :
    (s.setRelease c n).record j = s.record j := rfl

@[simp] theorem State.channel_of_setRelease (s : State) (c : Channel) (n : Nat) (d : Channel) :
    (s.setRelease c n).channel d = s.channel d := rfl

@[simp] theorem State.group_of_setRelease (s : State) (c : Channel) (n : Nat) (g : Fin 4) :
    (s.setRelease c n).group g = s.group g := rfl

@[simp] theorem State.session_of_setRelease (s : State) (c : Channel) (n : Nat) (q : Port) :
    (s.setRelease c n).session q = s.session q := rfl

@[simp] theorem State.noticesOf_of_setRelease (s : State) (c : Channel) (n : Nat) (q : Port) :
    (s.setRelease c n).noticesOf q = s.noticesOf q := rfl

@[simp] theorem State.port_of_setRelease (s : State) (c : Channel) (n : Nat) (q : Port) :
    (s.setRelease c n).port q = s.port q := rfl

@[simp] theorem State.count_of_setRelease (s : State) (c : Channel) (n : Nat) (q : Port) :
    (s.setRelease c n).count q = s.count q := rfl

/-! ### `setSession`, field by field -/

@[simp] theorem State.setSession_slots (s : State) (p : Port) (x : Session) : (s.setSession p x).slots = s.slots := rfl

@[simp] theorem State.setSession_stamp (s : State) (p : Port) (x : Session) : (s.setSession p x).stamp = s.stamp := rfl

@[simp] theorem State.setSession_counts (s : State) (p : Port) (x : Session) :
    (s.setSession p x).counts = s.counts := rfl

@[simp] theorem State.setSession_budget (s : State) (p : Port) (x : Session) :
    (s.setSession p x).budget = s.budget := rfl

@[simp] theorem State.setSession_releases (s : State) (p : Port) (x : Session) :
    (s.setSession p x).releases = s.releases := rfl

@[simp] theorem State.setSession_channels (s : State) (p : Port) (x : Session) :
    (s.setSession p x).channels = s.channels := rfl

@[simp] theorem State.setSession_scan (s : State) (p : Port) (x : Session) : (s.setSession p x).scan = s.scan := rfl

@[simp] theorem State.setSession_trip (s : State) (p : Port) (x : Session) : (s.setSession p x).trip = s.trip := rfl

@[simp] theorem State.setSession_sessions (s : State) (p : Port) (x : Session) :
    (s.setSession p x).sessions = s.sessions.set p x := rfl

@[simp] theorem State.setSession_notices (s : State) (p : Port) (x : Session) :
    (s.setSession p x).notices = s.notices := rfl

@[simp] theorem State.setSession_ports (s : State) (p : Port) (x : Session) : (s.setSession p x).ports = s.ports := rfl

@[simp] theorem State.setSession_pointer (s : State) (p : Port) (x : Session) :
    (s.setSession p x).pointer = s.pointer := rfl

@[simp] theorem State.setSession_cause (s : State) (p : Port) (x : Session) : (s.setSession p x).cause = s.cause := rfl

@[simp] theorem State.setSession_modulators (s : State) (p : Port) (x : Session) :
    (s.setSession p x).modulators = s.modulators := rfl

@[simp] theorem State.setSession_frameSlot (s : State) (p : Port) (x : Session) :
    (s.setSession p x).frameSlot = s.frameSlot := rfl

@[simp] theorem State.setSession_resetHeld (s : State) (p : Port) (x : Session) :
    (s.setSession p x).resetHeld = s.resetHeld := rfl

@[simp] theorem State.setSession_choice (s : State) (p : Port) (x : Session) :
    (s.setSession p x).choice = s.choice := rfl

@[simp] theorem State.setSession_pending (s : State) (p : Port) (x : Session) :
    (s.setSession p x).pending = s.pending := rfl

@[simp] theorem State.slot_of_setSession (s : State) (p : Port) (x : Session) (j : Fin 24) :
    (s.setSession p x).slot j = s.slot j := rfl

@[simp] theorem State.record_of_setSession (s : State) (p : Port) (x : Session) (j : Fin 24) :
    (s.setSession p x).record j = s.record j := rfl

@[simp] theorem State.channel_of_setSession (s : State) (p : Port) (x : Session) (d : Channel) :
    (s.setSession p x).channel d = s.channel d := rfl

@[simp] theorem State.releaseOf_of_setSession (s : State) (p : Port) (x : Session) (d : Channel) :
    (s.setSession p x).releaseOf d = s.releaseOf d := rfl

@[simp] theorem State.group_of_setSession (s : State) (p : Port) (x : Session) (g : Fin 4) :
    (s.setSession p x).group g = s.group g := rfl

@[simp] theorem State.noticesOf_of_setSession (s : State) (p : Port) (x : Session) (q : Port) :
    (s.setSession p x).noticesOf q = s.noticesOf q := rfl

@[simp] theorem State.port_of_setSession (s : State) (p : Port) (x : Session) (q : Port) :
    (s.setSession p x).port q = s.port q := rfl

@[simp] theorem State.count_of_setSession (s : State) (p : Port) (x : Session) (q : Port) :
    (s.setSession p x).count q = s.count q := rfl

/-! ### `setNotices`, field by field -/

@[simp] theorem State.setNotices_slots (s : State) (p : Port) (x : NoticeQueue) :
    (s.setNotices p x).slots = s.slots := rfl

@[simp] theorem State.setNotices_stamp (s : State) (p : Port) (x : NoticeQueue) :
    (s.setNotices p x).stamp = s.stamp := rfl

@[simp] theorem State.setNotices_counts (s : State) (p : Port) (x : NoticeQueue) :
    (s.setNotices p x).counts = s.counts := rfl

@[simp] theorem State.setNotices_budget (s : State) (p : Port) (x : NoticeQueue) :
    (s.setNotices p x).budget = s.budget := rfl

@[simp] theorem State.setNotices_releases (s : State) (p : Port) (x : NoticeQueue) :
    (s.setNotices p x).releases = s.releases := rfl

@[simp] theorem State.setNotices_channels (s : State) (p : Port) (x : NoticeQueue) :
    (s.setNotices p x).channels = s.channels := rfl

@[simp] theorem State.setNotices_scan (s : State) (p : Port) (x : NoticeQueue) : (s.setNotices p x).scan = s.scan := rfl

@[simp] theorem State.setNotices_trip (s : State) (p : Port) (x : NoticeQueue) : (s.setNotices p x).trip = s.trip := rfl

@[simp] theorem State.setNotices_sessions (s : State) (p : Port) (x : NoticeQueue) :
    (s.setNotices p x).sessions = s.sessions := rfl

@[simp] theorem State.setNotices_notices (s : State) (p : Port) (x : NoticeQueue) :
    (s.setNotices p x).notices = s.notices.set p x := rfl

@[simp] theorem State.setNotices_ports (s : State) (p : Port) (x : NoticeQueue) :
    (s.setNotices p x).ports = s.ports := rfl

@[simp] theorem State.setNotices_pointer (s : State) (p : Port) (x : NoticeQueue) :
    (s.setNotices p x).pointer = s.pointer := rfl

@[simp] theorem State.setNotices_cause (s : State) (p : Port) (x : NoticeQueue) :
    (s.setNotices p x).cause = s.cause := rfl

@[simp] theorem State.setNotices_modulators (s : State) (p : Port) (x : NoticeQueue) :
    (s.setNotices p x).modulators = s.modulators := rfl

@[simp] theorem State.setNotices_frameSlot (s : State) (p : Port) (x : NoticeQueue) :
    (s.setNotices p x).frameSlot = s.frameSlot := rfl

@[simp] theorem State.setNotices_resetHeld (s : State) (p : Port) (x : NoticeQueue) :
    (s.setNotices p x).resetHeld = s.resetHeld := rfl

@[simp] theorem State.setNotices_choice (s : State) (p : Port) (x : NoticeQueue) :
    (s.setNotices p x).choice = s.choice := rfl

@[simp] theorem State.setNotices_pending (s : State) (p : Port) (x : NoticeQueue) :
    (s.setNotices p x).pending = s.pending := rfl

@[simp] theorem State.slot_of_setNotices (s : State) (p : Port) (x : NoticeQueue) (j : Fin 24) :
    (s.setNotices p x).slot j = s.slot j := rfl

@[simp] theorem State.record_of_setNotices (s : State) (p : Port) (x : NoticeQueue) (j : Fin 24) :
    (s.setNotices p x).record j = s.record j := rfl

@[simp] theorem State.channel_of_setNotices (s : State) (p : Port) (x : NoticeQueue) (d : Channel) :
    (s.setNotices p x).channel d = s.channel d := rfl

@[simp] theorem State.releaseOf_of_setNotices (s : State) (p : Port) (x : NoticeQueue) (d : Channel) :
    (s.setNotices p x).releaseOf d = s.releaseOf d := rfl

@[simp] theorem State.group_of_setNotices (s : State) (p : Port) (x : NoticeQueue) (g : Fin 4) :
    (s.setNotices p x).group g = s.group g := rfl

@[simp] theorem State.session_of_setNotices (s : State) (p : Port) (x : NoticeQueue) (q : Port) :
    (s.setNotices p x).session q = s.session q := rfl

@[simp] theorem State.port_of_setNotices (s : State) (p : Port) (x : NoticeQueue) (q : Port) :
    (s.setNotices p x).port q = s.port q := rfl

@[simp] theorem State.count_of_setNotices (s : State) (p : Port) (x : NoticeQueue) (q : Port) :
    (s.setNotices p x).count q = s.count q := rfl

/-! ### `setPort`, field by field -/

@[simp] theorem State.setPort_slots (s : State) (p : Port) (x : PortState) : (s.setPort p x).slots = s.slots := rfl

@[simp] theorem State.setPort_stamp (s : State) (p : Port) (x : PortState) : (s.setPort p x).stamp = s.stamp := rfl

@[simp] theorem State.setPort_counts (s : State) (p : Port) (x : PortState) : (s.setPort p x).counts = s.counts := rfl

@[simp] theorem State.setPort_budget (s : State) (p : Port) (x : PortState) : (s.setPort p x).budget = s.budget := rfl

@[simp] theorem State.setPort_releases (s : State) (p : Port) (x : PortState) :
    (s.setPort p x).releases = s.releases := rfl

@[simp] theorem State.setPort_channels (s : State) (p : Port) (x : PortState) :
    (s.setPort p x).channels = s.channels := rfl

@[simp] theorem State.setPort_scan (s : State) (p : Port) (x : PortState) : (s.setPort p x).scan = s.scan := rfl

@[simp] theorem State.setPort_trip (s : State) (p : Port) (x : PortState) : (s.setPort p x).trip = s.trip := rfl

@[simp] theorem State.setPort_sessions (s : State) (p : Port) (x : PortState) :
    (s.setPort p x).sessions = s.sessions := rfl

@[simp] theorem State.setPort_notices (s : State) (p : Port) (x : PortState) :
    (s.setPort p x).notices = s.notices := rfl

@[simp] theorem State.setPort_ports (s : State) (p : Port) (x : PortState) :
    (s.setPort p x).ports = s.ports.set p x := rfl

@[simp] theorem State.setPort_pointer (s : State) (p : Port) (x : PortState) :
    (s.setPort p x).pointer = s.pointer := rfl

@[simp] theorem State.setPort_cause (s : State) (p : Port) (x : PortState) : (s.setPort p x).cause = s.cause := rfl

@[simp] theorem State.setPort_modulators (s : State) (p : Port) (x : PortState) :
    (s.setPort p x).modulators = s.modulators := rfl

@[simp] theorem State.setPort_frameSlot (s : State) (p : Port) (x : PortState) :
    (s.setPort p x).frameSlot = s.frameSlot := rfl

@[simp] theorem State.setPort_resetHeld (s : State) (p : Port) (x : PortState) :
    (s.setPort p x).resetHeld = s.resetHeld := rfl

@[simp] theorem State.setPort_choice (s : State) (p : Port) (x : PortState) : (s.setPort p x).choice = s.choice := rfl

@[simp] theorem State.setPort_pending (s : State) (p : Port) (x : PortState) :
    (s.setPort p x).pending = s.pending := rfl

@[simp] theorem State.slot_of_setPort (s : State) (p : Port) (x : PortState) (j : Fin 24) :
    (s.setPort p x).slot j = s.slot j := rfl

@[simp] theorem State.record_of_setPort (s : State) (p : Port) (x : PortState) (j : Fin 24) :
    (s.setPort p x).record j = s.record j := rfl

@[simp] theorem State.channel_of_setPort (s : State) (p : Port) (x : PortState) (d : Channel) :
    (s.setPort p x).channel d = s.channel d := rfl

@[simp] theorem State.releaseOf_of_setPort (s : State) (p : Port) (x : PortState) (d : Channel) :
    (s.setPort p x).releaseOf d = s.releaseOf d := rfl

@[simp] theorem State.group_of_setPort (s : State) (p : Port) (x : PortState) (g : Fin 4) :
    (s.setPort p x).group g = s.group g := rfl

@[simp] theorem State.session_of_setPort (s : State) (p : Port) (x : PortState) (q : Port) :
    (s.setPort p x).session q = s.session q := rfl

@[simp] theorem State.noticesOf_of_setPort (s : State) (p : Port) (x : PortState) (q : Port) :
    (s.setPort p x).noticesOf q = s.noticesOf q := rfl

@[simp] theorem State.count_of_setPort (s : State) (p : Port) (x : PortState) (q : Port) :
    (s.setPort p x).count q = s.count q := rfl

/-! ### `setCount`, field by field -/

@[simp] theorem State.setCount_slots (s : State) (p : Port) (n : Nat) : (s.setCount p n).slots = s.slots := rfl

@[simp] theorem State.setCount_stamp (s : State) (p : Port) (n : Nat) : (s.setCount p n).stamp = s.stamp := rfl

@[simp] theorem State.setCount_counts (s : State) (p : Port) (n : Nat) :
    (s.setCount p n).counts = s.counts.set p n := rfl

@[simp] theorem State.setCount_budget (s : State) (p : Port) (n : Nat) : (s.setCount p n).budget = s.budget := rfl

@[simp] theorem State.setCount_releases (s : State) (p : Port) (n : Nat) : (s.setCount p n).releases = s.releases := rfl

@[simp] theorem State.setCount_channels (s : State) (p : Port) (n : Nat) : (s.setCount p n).channels = s.channels := rfl

@[simp] theorem State.setCount_scan (s : State) (p : Port) (n : Nat) : (s.setCount p n).scan = s.scan := rfl

@[simp] theorem State.setCount_trip (s : State) (p : Port) (n : Nat) : (s.setCount p n).trip = s.trip := rfl

@[simp] theorem State.setCount_sessions (s : State) (p : Port) (n : Nat) : (s.setCount p n).sessions = s.sessions := rfl

@[simp] theorem State.setCount_notices (s : State) (p : Port) (n : Nat) : (s.setCount p n).notices = s.notices := rfl

@[simp] theorem State.setCount_ports (s : State) (p : Port) (n : Nat) : (s.setCount p n).ports = s.ports := rfl

@[simp] theorem State.setCount_pointer (s : State) (p : Port) (n : Nat) : (s.setCount p n).pointer = s.pointer := rfl

@[simp] theorem State.setCount_cause (s : State) (p : Port) (n : Nat) : (s.setCount p n).cause = s.cause := rfl

@[simp] theorem State.setCount_modulators (s : State) (p : Port) (n : Nat) :
    (s.setCount p n).modulators = s.modulators := rfl

@[simp] theorem State.setCount_frameSlot (s : State) (p : Port) (n : Nat) :
    (s.setCount p n).frameSlot = s.frameSlot := rfl

@[simp] theorem State.setCount_resetHeld (s : State) (p : Port) (n : Nat) :
    (s.setCount p n).resetHeld = s.resetHeld := rfl

@[simp] theorem State.setCount_choice (s : State) (p : Port) (n : Nat) : (s.setCount p n).choice = s.choice := rfl

@[simp] theorem State.setCount_pending (s : State) (p : Port) (n : Nat) : (s.setCount p n).pending = s.pending := rfl

@[simp] theorem State.slot_of_setCount (s : State) (p : Port) (n : Nat) (j : Fin 24) :
    (s.setCount p n).slot j = s.slot j := rfl

@[simp] theorem State.record_of_setCount (s : State) (p : Port) (n : Nat) (j : Fin 24) :
    (s.setCount p n).record j = s.record j := rfl

@[simp] theorem State.channel_of_setCount (s : State) (p : Port) (n : Nat) (d : Channel) :
    (s.setCount p n).channel d = s.channel d := rfl

@[simp] theorem State.releaseOf_of_setCount (s : State) (p : Port) (n : Nat) (d : Channel) :
    (s.setCount p n).releaseOf d = s.releaseOf d := rfl

@[simp] theorem State.group_of_setCount (s : State) (p : Port) (n : Nat) (g : Fin 4) :
    (s.setCount p n).group g = s.group g := rfl

@[simp] theorem State.session_of_setCount (s : State) (p : Port) (n : Nat) (q : Port) :
    (s.setCount p n).session q = s.session q := rfl

@[simp] theorem State.noticesOf_of_setCount (s : State) (p : Port) (n : Nat) (q : Port) :
    (s.setCount p n).noticesOf q = s.noticesOf q := rfl

@[simp] theorem State.port_of_setCount (s : State) (p : Port) (n : Nat) (q : Port) :
    (s.setCount p n).port q = s.port q := rfl

/-! ### `setBudget`, field by field -/

@[simp] theorem State.setBudget_slots (s : State) (b : Budget) : (s.setBudget b).slots = s.slots := rfl

@[simp] theorem State.setBudget_stamp (s : State) (b : Budget) : (s.setBudget b).stamp = s.stamp := rfl

@[simp] theorem State.setBudget_counts (s : State) (b : Budget) : (s.setBudget b).counts = s.counts := rfl

@[simp] theorem State.setBudget_budget (s : State) (b : Budget) : (s.setBudget b).budget = b := rfl

@[simp] theorem State.setBudget_releases (s : State) (b : Budget) : (s.setBudget b).releases = s.releases := rfl

@[simp] theorem State.setBudget_channels (s : State) (b : Budget) : (s.setBudget b).channels = s.channels := rfl

@[simp] theorem State.setBudget_scan (s : State) (b : Budget) : (s.setBudget b).scan = s.scan := rfl

@[simp] theorem State.setBudget_trip (s : State) (b : Budget) : (s.setBudget b).trip = s.trip := rfl

@[simp] theorem State.setBudget_sessions (s : State) (b : Budget) : (s.setBudget b).sessions = s.sessions := rfl

@[simp] theorem State.setBudget_notices (s : State) (b : Budget) : (s.setBudget b).notices = s.notices := rfl

@[simp] theorem State.setBudget_ports (s : State) (b : Budget) : (s.setBudget b).ports = s.ports := rfl

@[simp] theorem State.setBudget_pointer (s : State) (b : Budget) : (s.setBudget b).pointer = s.pointer := rfl

@[simp] theorem State.setBudget_cause (s : State) (b : Budget) : (s.setBudget b).cause = s.cause := rfl

@[simp] theorem State.setBudget_modulators (s : State) (b : Budget) : (s.setBudget b).modulators = s.modulators := rfl

@[simp] theorem State.setBudget_frameSlot (s : State) (b : Budget) : (s.setBudget b).frameSlot = s.frameSlot := rfl

@[simp] theorem State.setBudget_resetHeld (s : State) (b : Budget) : (s.setBudget b).resetHeld = s.resetHeld := rfl

@[simp] theorem State.setBudget_choice (s : State) (b : Budget) : (s.setBudget b).choice = s.choice := rfl

@[simp] theorem State.setBudget_pending (s : State) (b : Budget) : (s.setBudget b).pending = s.pending := rfl

@[simp] theorem State.slot_of_setBudget (s : State) (b : Budget) (j : Fin 24) : (s.setBudget b).slot j = s.slot j := rfl

@[simp] theorem State.record_of_setBudget (s : State) (b : Budget) (j : Fin 24) :
    (s.setBudget b).record j = s.record j := rfl

@[simp] theorem State.channel_of_setBudget (s : State) (b : Budget) (d : Channel) :
    (s.setBudget b).channel d = s.channel d := rfl

@[simp] theorem State.releaseOf_of_setBudget (s : State) (b : Budget) (d : Channel) :
    (s.setBudget b).releaseOf d = s.releaseOf d := rfl

@[simp] theorem State.group_of_setBudget (s : State) (b : Budget) (g : Fin 4) :
    (s.setBudget b).group g = s.group g := rfl

@[simp] theorem State.session_of_setBudget (s : State) (b : Budget) (q : Port) :
    (s.setBudget b).session q = s.session q := rfl

@[simp] theorem State.noticesOf_of_setBudget (s : State) (b : Budget) (q : Port) :
    (s.setBudget b).noticesOf q = s.noticesOf q := rfl

@[simp] theorem State.port_of_setBudget (s : State) (b : Budget) (q : Port) : (s.setBudget b).port q = s.port q := rfl

@[simp] theorem State.count_of_setBudget (s : State) (b : Budget) (q : Port) :
    (s.setBudget b).count q = s.count q := rfl

/-! ### `setScan`, field by field -/

@[simp] theorem State.setScan_slots (s : State) (x : Scanner) : (s.setScan x).slots = s.slots := rfl

@[simp] theorem State.setScan_stamp (s : State) (x : Scanner) : (s.setScan x).stamp = s.stamp := rfl

@[simp] theorem State.setScan_counts (s : State) (x : Scanner) : (s.setScan x).counts = s.counts := rfl

@[simp] theorem State.setScan_budget (s : State) (x : Scanner) : (s.setScan x).budget = s.budget := rfl

@[simp] theorem State.setScan_releases (s : State) (x : Scanner) : (s.setScan x).releases = s.releases := rfl

@[simp] theorem State.setScan_channels (s : State) (x : Scanner) : (s.setScan x).channels = s.channels := rfl

@[simp] theorem State.setScan_scan (s : State) (x : Scanner) : (s.setScan x).scan = x := rfl

@[simp] theorem State.setScan_trip (s : State) (x : Scanner) : (s.setScan x).trip = s.trip := rfl

@[simp] theorem State.setScan_sessions (s : State) (x : Scanner) : (s.setScan x).sessions = s.sessions := rfl

@[simp] theorem State.setScan_notices (s : State) (x : Scanner) : (s.setScan x).notices = s.notices := rfl

@[simp] theorem State.setScan_ports (s : State) (x : Scanner) : (s.setScan x).ports = s.ports := rfl

@[simp] theorem State.setScan_pointer (s : State) (x : Scanner) : (s.setScan x).pointer = s.pointer := rfl

@[simp] theorem State.setScan_cause (s : State) (x : Scanner) : (s.setScan x).cause = s.cause := rfl

@[simp] theorem State.setScan_modulators (s : State) (x : Scanner) : (s.setScan x).modulators = s.modulators := rfl

@[simp] theorem State.setScan_frameSlot (s : State) (x : Scanner) : (s.setScan x).frameSlot = s.frameSlot := rfl

@[simp] theorem State.setScan_resetHeld (s : State) (x : Scanner) : (s.setScan x).resetHeld = s.resetHeld := rfl

@[simp] theorem State.setScan_choice (s : State) (x : Scanner) : (s.setScan x).choice = s.choice := rfl

@[simp] theorem State.setScan_pending (s : State) (x : Scanner) : (s.setScan x).pending = s.pending := rfl

@[simp] theorem State.slot_of_setScan (s : State) (x : Scanner) (j : Fin 24) : (s.setScan x).slot j = s.slot j := rfl

@[simp] theorem State.record_of_setScan (s : State) (x : Scanner) (j : Fin 24) :
    (s.setScan x).record j = s.record j := rfl

@[simp] theorem State.channel_of_setScan (s : State) (x : Scanner) (d : Channel) :
    (s.setScan x).channel d = s.channel d := rfl

@[simp] theorem State.releaseOf_of_setScan (s : State) (x : Scanner) (d : Channel) :
    (s.setScan x).releaseOf d = s.releaseOf d := rfl

@[simp] theorem State.group_of_setScan (s : State) (x : Scanner) (g : Fin 4) : (s.setScan x).group g = s.group g := rfl

@[simp] theorem State.session_of_setScan (s : State) (x : Scanner) (q : Port) :
    (s.setScan x).session q = s.session q := rfl

@[simp] theorem State.noticesOf_of_setScan (s : State) (x : Scanner) (q : Port) :
    (s.setScan x).noticesOf q = s.noticesOf q := rfl

@[simp] theorem State.port_of_setScan (s : State) (x : Scanner) (q : Port) : (s.setScan x).port q = s.port q := rfl

@[simp] theorem State.count_of_setScan (s : State) (x : Scanner) (q : Port) : (s.setScan x).count q = s.count q := rfl

/-! ### `setTrip`, field by field -/

@[simp] theorem State.setTrip_slots (s : State) (x : TripUnit) : (s.setTrip x).slots = s.slots := rfl

@[simp] theorem State.setTrip_stamp (s : State) (x : TripUnit) : (s.setTrip x).stamp = s.stamp := rfl

@[simp] theorem State.setTrip_counts (s : State) (x : TripUnit) : (s.setTrip x).counts = s.counts := rfl

@[simp] theorem State.setTrip_budget (s : State) (x : TripUnit) : (s.setTrip x).budget = s.budget := rfl

@[simp] theorem State.setTrip_releases (s : State) (x : TripUnit) : (s.setTrip x).releases = s.releases := rfl

@[simp] theorem State.setTrip_channels (s : State) (x : TripUnit) : (s.setTrip x).channels = s.channels := rfl

@[simp] theorem State.setTrip_scan (s : State) (x : TripUnit) : (s.setTrip x).scan = s.scan := rfl

@[simp] theorem State.setTrip_trip (s : State) (x : TripUnit) : (s.setTrip x).trip = x := rfl

@[simp] theorem State.setTrip_sessions (s : State) (x : TripUnit) : (s.setTrip x).sessions = s.sessions := rfl

@[simp] theorem State.setTrip_notices (s : State) (x : TripUnit) : (s.setTrip x).notices = s.notices := rfl

@[simp] theorem State.setTrip_ports (s : State) (x : TripUnit) : (s.setTrip x).ports = s.ports := rfl

@[simp] theorem State.setTrip_pointer (s : State) (x : TripUnit) : (s.setTrip x).pointer = s.pointer := rfl

@[simp] theorem State.setTrip_cause (s : State) (x : TripUnit) : (s.setTrip x).cause = s.cause := rfl

@[simp] theorem State.setTrip_modulators (s : State) (x : TripUnit) : (s.setTrip x).modulators = s.modulators := rfl

@[simp] theorem State.setTrip_frameSlot (s : State) (x : TripUnit) : (s.setTrip x).frameSlot = s.frameSlot := rfl

@[simp] theorem State.setTrip_resetHeld (s : State) (x : TripUnit) : (s.setTrip x).resetHeld = s.resetHeld := rfl

@[simp] theorem State.setTrip_choice (s : State) (x : TripUnit) : (s.setTrip x).choice = s.choice := rfl

@[simp] theorem State.setTrip_pending (s : State) (x : TripUnit) : (s.setTrip x).pending = s.pending := rfl

@[simp] theorem State.slot_of_setTrip (s : State) (x : TripUnit) (j : Fin 24) : (s.setTrip x).slot j = s.slot j := rfl

@[simp] theorem State.record_of_setTrip (s : State) (x : TripUnit) (j : Fin 24) :
    (s.setTrip x).record j = s.record j := rfl

@[simp] theorem State.channel_of_setTrip (s : State) (x : TripUnit) (d : Channel) :
    (s.setTrip x).channel d = s.channel d := rfl

@[simp] theorem State.releaseOf_of_setTrip (s : State) (x : TripUnit) (d : Channel) :
    (s.setTrip x).releaseOf d = s.releaseOf d := rfl

@[simp] theorem State.session_of_setTrip (s : State) (x : TripUnit) (q : Port) :
    (s.setTrip x).session q = s.session q := rfl

@[simp] theorem State.noticesOf_of_setTrip (s : State) (x : TripUnit) (q : Port) :
    (s.setTrip x).noticesOf q = s.noticesOf q := rfl

@[simp] theorem State.port_of_setTrip (s : State) (x : TripUnit) (q : Port) : (s.setTrip x).port q = s.port q := rfl

@[simp] theorem State.count_of_setTrip (s : State) (x : TripUnit) (q : Port) : (s.setTrip x).count q = s.count q := rfl

end Sys2Proof.Machine
end

