-- ==== Sys2Proof/Laws/Ops.lean ====
section
/-! SUPPORT. The operations that every block shares: responses, notices and handles. One lemma says what each can do. -/

namespace Sys2Proof.Machine

/-! ### Responses -/

/-- A response changes nothing but its port's slot and OVERWRITTEN (R150). -/
theorem State.writeResponse_eq (s : State) (p : Port) (r : Response) :
    s.writeResponse p r =
      { s with
        ports := s.ports.set p
          { s.port p with
            response := some r
            overwritten := (s.port p).overwritten || (s.port p).response.isSome } } := rfl

@[simp] theorem State.port_writeResponse_self (s : State) (p : Port) (r : Response) :
    (s.writeResponse p r).port p = (s.port p).write r := State.port_setPort_self s p _

theorem State.port_writeResponse_ne (s : State) {p q : Port} (r : Response) (h : q ≠ p) :
    (s.writeResponse p r).port q = s.port q := State.port_setPort_ne s _ h

@[simp] theorem PortState.write_response (x : PortState) (r : Response) : (x.write r).response = some r := rfl

@[simp] theorem PortState.write_command (x : PortState) (r : Response) : (x.write r).command = x.command := rfl

/-! ### Notices -/

theorem Kind.code_injective {k l : Kind} (h : k.code = l.code) : k = l := by
  cases k <;> cases l <;> first | rfl | exact absurd h (by decide)

theorem Kind.code_lt (k : Kind) : k.code < 12 := by cases k <;> decide

/-- Bit k of a kind's mask is set for the kind of code k alone (R165). -/
theorem Kind.mask_getLsbD (k l : Kind) : k.mask.getLsbD l.code = decide (k = l) := by
  cases k <;> cases l <;> decide

theorem Kind.mask_ne_zero (k : Kind) : k.mask ≠ 0#16 := by cases k <;> decide

/-- A notice joins a queue of fewer than 8 records (R134). -/
theorem NoticeQueue.put_of_lt (q : NoticeQueue) (n : Notice) (h : q.queue.length < 8) :
    q.put n = { q with queue := q.queue ++ [n], attn := true } := by
  simp [NoticeQueue.put, h, NoticeQueue.formAttn, NoticeQueue.waiting]

/-- A notice for a full queue is lost to the summary (R135). -/
theorem NoticeQueue.put_of_le (q : NoticeQueue) (n : Notice) (h : 8 ≤ q.queue.length) :
    q.put n = { q with lostKinds := q.lostKinds ||| n.kind.mask, lostCount := min 255 (q.lostCount + 1), attn := true } := by
  simp [NoticeQueue.put, Nat.not_lt.mpr h, NoticeQueue.formAttn, NoticeQueue.waiting]

/-- A queue that takes a notice stays sound, for a notice of any kind but OVERFLOW, which is formed by a take alone. -/
theorem NoticeQueue.Sound.put {q : NoticeQueue} (hq : q.Sound) {n : Notice} (hn : n.kind ≠ .overflow) :
    (q.put n).Sound := by
  rcases Nat.lt_or_ge q.queue.length 8 with h | h
  · rw [NoticeQueue.put_of_lt q n h]
    refine ⟨by simpa using h, hq.lost_le, fun hl => absurd (hq.lost_full hl) (Nat.ne_of_lt h), hq.lost_kinds,
      hq.no_overflow, by simp [NoticeQueue.waiting]⟩
  · rw [NoticeQueue.put_of_le q n h]
    refine ⟨hq.length_le, by simp only; omega, fun _ => Nat.le_antisymm hq.length_le h, ?_, ?_,
      by simp [NoticeQueue.waiting]⟩
    · refine ⟨fun _ => by simp only; omega, fun _ hz => ?_⟩
      exact n.kind.mask_ne_zero (BitVec.or_eq_zero_iff.mp hz).2
    · have h := n.kind.mask_getLsbD .overflow
      show (q.lostKinds ||| n.kind.mask).getLsbD 11 = false
      rw [BitVec.getLsbD_or, hq.no_overflow]
      exact h.trans (decide_eq_false hn)

/-- A notice changes nothing but its port's queue, and that only where the port's session is OPEN (R133). -/
theorem State.notify_eq (s : State) (p : Port) (n : Notice) :
    s.notify p n = { s with notices := withNotice s p n } := by
  by_cases h : (s.session p).state = .opened
  · simp [State.notify, State.isOpen, withNotice, h, State.setNotices]
  · simp [State.notify, State.isOpen, withNotice, h]

theorem State.notify_of_open (s : State) (p : Port) (n : Notice) (h : (s.session p).state = .opened) :
    s.notify p n = s.setNotices p ((s.noticesOf p).put n) := by
  simp [State.notify, State.isOpen, h]

theorem State.notify_of_not_open (s : State) (p : Port) (n : Notice) (h : (s.session p).state ≠ .opened) :
    s.notify p n = s := by
  simp [State.notify, State.isOpen, h]

theorem State.noticesOf_notify_ne (s : State) {p q : Port} (n : Notice) (h : q ≠ p) :
    (s.notify p n).noticesOf q = s.noticesOf q := by
  unfold State.notify
  split
  · exact State.noticesOf_setNotices_ne s _ h
  · rfl

/-- The loop's notice goes to the port of the claim that the holder names, and changes that port's queue alone (R62, R85). -/
theorem State.notifyHolder_eq (s : State) (k : Kind) (c : Channel) (v : Option Nat) :
    s.notifyHolder k c v = { s with notices := withHolderNotice s k c v } := by
  unfold State.notifyHolder withHolderNotice
  cases s.holderPort c with
  | none => rfl
  | some p => exact State.notify_eq s p _

/-! ### Handles -/

/-- A handle resolves to a record exactly where its slot holds that record at the handle's generation (R3). -/
theorem State.resolve_eq_some {s : State} {h : Handle} {r : Claim} :
    s.resolve h = some r ↔ (s.slot h.slot).gen = h.gen ∧ s.record h.slot = some r := by
  unfold State.resolve
  split <;> simp_all

theorem State.resolve_eq_none {s : State} {h : Handle} :
    s.resolve h = none ↔ (s.slot h.slot).gen ≠ h.gen ∨ s.record h.slot = none := by
  unfold State.resolve
  split <;> simp_all

@[simp] theorem State.resolve_handleAt (s : State) (i : Fin 24) : s.resolve (s.handleAt i) = s.record i := by
  simp [State.resolve, State.handleAt]

@[simp] theorem State.handleAt_slot (s : State) (i : Fin 24) : (s.handleAt i).slot = i := rfl

/-! ### Sessions -/

theorem State.isOpen_iff (s : State) (p : Port) : s.isOpen p = true ↔ (s.session p).state = .opened := by
  simp [State.isOpen]

end Sys2Proof.Machine
end

