-- ==== Sys2Proof/Laws/Onto.lean ====
section
/-! SUPPORT. The operations of the claim table, the loops, the trip unit and the notices neither read nor write the wire
side of the part: its ports, the executor's pointer, the reset's cause and hold, the modulators, the stamp counter and
the queue of waiting commands. `State.onto` puts another wire side on a state, and each operation commutes with it, so
that the executor's taking of a command and the writing of its response slide past the command's own effect. -/

namespace Sys2Proof.Machine

/-- The state with the wire side of another. -/
def State.onto (s o : State) : State :=
  { s with stamp := o.stamp, ports := o.ports, pointer := o.pointer, cause := o.cause, modulators := o.modulators,
           frameSlot := o.frameSlot, resetHeld := o.resetHeld, pending := o.pending }

@[simp] theorem State.onto_self (s : State) : s.onto s = s := rfl

@[simp] theorem State.onto_onto (s o o' : State) : (s.onto o).onto o' = s.onto o' := rfl

/-- The executor's taking of a command changes the wire side alone (R151). -/
theorem State.takeFrom_onto (s : State) (p : Port) : s.takeFrom p = s.onto (s.takeFrom p) := rfl

/-- What commutes with `onto` keeps the wire side. -/
theorem State.keeps_wire {f : State → State} (h : ∀ s o : State, f (s.onto o) = (f s).onto o) (s : State) :
    f s = (f s).onto s := h s s

/-- A run of operations that each commute with `onto` commutes with it. -/
theorem foldl_onto {α : Type} {f : State → α → State} (o : State) (h : ∀ t x, f (t.onto o) x = (f t x).onto o)
    (l : List α) (s : State) : l.foldl f (s.onto o) = (l.foldl f s).onto o := by
  induction l generalizing s with
  | nil => rfl
  | cons x rest ih => rw [List.foldl_cons, List.foldl_cons, h, ih]

/-! ### Notices -/

theorem State.notify_onto (s o : State) (p : Port) (n : Notice) : (s.onto o).notify p n = (s.notify p n).onto o := by
  rw [State.notify_eq, State.notify_eq]; rfl

theorem State.notifyHolder_onto (s o : State) (k : Kind) (c : Channel) (v : Option Nat) :
    (s.onto o).notifyHolder k c v = (s.notifyHolder k c v).onto o := by
  rw [State.notifyHolder_eq, State.notifyHolder_eq]; rfl

/-! ### The allocator -/

theorem State.sendRelease_onto (s o : State) (c : Channel) (amount : Nat) :
    (s.onto o).sendRelease c amount = (s.sendRelease c amount).onto o := by
  unfold State.sendRelease
  change (if (s.channel c).releaseReachesIdle then _ else _) = _
  split <;> rfl

theorem State.dropRecord_onto (s o : State) (i : Fin 24) : (s.onto o).dropRecord i = (s.dropRecord i).onto o := by
  unfold State.dropRecord
  change (match s.record i with | none => s.onto o | some r => _) = _
  cases s.record i with
  | none => rfl
  | some r => cases h : r.state <;> simp only [h] <;> first
      | rfl
      | exact State.sendRelease_onto ((s.freeSlot i r).lowerGranted r.amount) o r.channel r.amount

theorem State.grantSlot_onto (s o : State) (i : Fin 24) (r : Claim) :
    (s.onto o).grantSlot i r = (s.grantSlot i r).onto o := by
  unfold State.grantSlot
  exact State.notify_onto
    (((s.setSlot i ⟨(s.slot i).gen, some { r with state := .granted }⟩).raiseGranted r.amount).setChannel r.channel _) o _ _

theorem State.walkQueue_onto (s o : State) (l : List (Fin 24)) : (s.onto o).walkQueue l = (s.walkQueue l).onto o := by
  induction l generalizing s with
  | nil => rfl
  | cons i rest ih =>
    unfold State.walkQueue
    change (match s.record i with | some r => _ | none => _) = _
    cases s.record i with
    | none => exact ih s
    | some r =>
      simp only
      change (if r.state = .pending ∧ s.eligible r = true then (if (r.amount : Int) ≤ s.headroom then _ else _) else _) = _
      split
      · split
        · rw [State.grantSlot_onto]; exact ih _
        · rfl
      · exact ih s

theorem State.insertSlot_onto (s o : State) (i : Fin 24) (l : List (Fin 24)) :
    (s.onto o).insertSlot i l = s.insertSlot i l := by
  induction l with
  | nil => rfl
  | cons j rest ih =>
    unfold State.insertSlot
    rw [ih]; rfl

theorem State.inWaitOrder_onto (s o : State) (l : List (Fin 24)) : (s.onto o).inWaitOrder l = s.inWaitOrder l := by
  induction l with
  | nil => rfl
  | cons i rest ih =>
    unfold State.inWaitOrder
    rw [ih, State.insertSlot_onto]

theorem State.allocationPass_onto (s o : State) : (s.onto o).allocationPass = s.allocationPass.onto o := by
  unfold State.allocationPass
  rw [State.walkQueue_onto]
  exact congrArg (fun l => (s.walkQueue l).onto o) (State.inWaitOrder_onto s o _)

theorem State.shedSlot_onto (s o : State) (i : Fin 24) : (s.onto o).shedSlot i = (s.shedSlot i).onto o := by
  unfold State.shedSlot
  change (match s.record i with | some r => _ | none => _) = _
  cases s.record i with
  | none => rfl
  | some r =>
    simp only
    split
    · unfold State.shedRecord
      simp only
      have h := State.sendRelease_onto
        ((s.setSlot i ⟨(s.slot i).gen, some { r with state := .pending, shed := min 255 (r.shed + 1) }⟩).lowerGranted
          r.amount) o r.channel r.amount
      refine Eq.trans ?_ (State.notify_onto _ o _ _)
      exact congrArg (fun t : State => t.notify r.port (t.claimNotice .shed r.channel (some (t.handleAt i)) none)) h
    · rfl

theorem State.shedWalk_onto (s o : State) (l : List (Fin 24)) : (s.onto o).shedWalk l = (s.shedWalk l).onto o := by
  induction l generalizing s with
  | nil => rfl
  | cons i rest ih =>
    unfold State.shedWalk
    change (if s.budget.effective < s.budget.granted then _ else _) = _
    split
    · rw [State.shedSlot_onto]; exact ih _
    · rfl

theorem State.shed_onto (s o : State) : (s.onto o).shed = s.shed.onto o := by
  unfold State.shed
  rw [State.shedWalk_onto]
  exact congrArg (fun l : List (Fin 24) => (s.shedWalk l.reverse).onto o) (State.inWaitOrder_onto s o _)

theorem State.notifyBudget_onto (s o : State) : (s.onto o).notifyBudget = s.notifyBudget.onto o :=
  foldl_onto o (fun t p => State.notify_onto t o p t.budgetNotice) allPorts s

theorem State.reformBudget_onto (s o : State) (b : Bool) : (s.onto o).reformBudget b = (s.reformBudget b).onto o := by
  unfold State.reformBudget
  simp only
  rw [← State.allocationPass_onto]
  congr 1
  have h : ({ s.onto o with budget := { s.budget with effective := s.budget.formed } } : State).shed =
      ({ s with budget := { s.budget with effective := s.budget.formed } } : State).shed.onto o :=
    State.shed_onto { s with budget := { s.budget with effective := s.budget.formed } } o
  change (if s.budget.formed = s.budget.effective then _ else State.notifyBudget _) = _
  cases b
  · simp only [Bool.false_eq_true, if_false]
    split
    · rfl
    · exact State.notifyBudget_onto { s with budget := { s.budget with effective := s.budget.formed } } o
  · simp only [if_true]
    split
    · exact h
    · exact (congrArg State.notifyBudget h).trans (State.notifyBudget_onto _ o)

theorem State.derateEvent_onto (s o : State) (on : Bool) : (s.onto o).derateEvent on = (s.derateEvent on).onto o :=
  State.reformBudget_onto { s with budget := { s.budget with derateOn := on } } o on

/-! ### The trip unit -/

theorem State.formHold_onto (s o : State) (before after : Vector Group 4) (c : Channel) :
    (s.onto o).formHold before after c = (s.formHold before after c).onto o := by
  unfold State.formHold
  change (if holdFormed after c = (s.channel c).hold then _ else _) = _
  split
  · rfl
  · split
    · unfold State.sendHold
      simp only
      change (if (s.channel c).state.settling then _ else if (s.channel c).state = .releasing then _ else _) = _
      split
      · exact State.notifyHolder_onto (s.setChannel c (s.channel c).takeHold) o _ _ _
      · split <;> rfl
    · unfold State.sendUnhold
      simp only
      change (if (s.channel c).state = .held then _ else _) = _
      split
      · exact State.notifyHolder_onto (s.setChannel c (s.channel c).takeUnhold) o _ _ _
      · rfl

theorem State.putGroups_onto (s o : State) (after : Vector Group 4) :
    (s.onto o).putGroups after = (s.putGroups after).onto o :=
  foldl_onto (f := fun t c => t.formHold s.trip.groups after c) o (fun t c => State.formHold_onto t o _ after c) allChannels
    (s.setTrip { s.trip with groups := after, fault := faultFormed after })

theorem State.tripAction_onto (s o : State) (after : Vector Group 4) :
    (s.onto o).tripAction after = (s.tripAction after).onto o := by
  unfold State.tripAction
  change (if s.holdEndsWindDown after then _ else _) = _
  split
  · rw [State.putGroups_onto, State.allocationPass_onto]
  · exact State.putGroups_onto s o after

theorem State.inputEvent_onto (s o : State) (i : TripInput) (v : Bool) :
    (s.onto o).inputEvent i v = (s.inputEvent i v).onto o :=
  State.tripAction_onto (s.recordInput i v) o (s.recordInput i v).settledGroups

theorem State.inputEventNoPass_onto (s o : State) (i : TripInput) (v : Bool) :
    (s.onto o).inputEventNoPass i v = (s.inputEventNoPass i v).onto o :=
  State.putGroups_onto (s.recordInput i v) o (s.recordInput i v).settledGroups

theorem State.followTripany_onto (s o : State) : (s.onto o).followTripany = s.followTripany.onto o := by
  unfold State.followTripany
  change (if s.anyTripped = s.input .tripany then _ else _) = _
  split
  · rfl
  · exact State.inputEvent_onto s o _ _

theorem State.takePins_onto (s o : State) (l : List FltPin) : (s.onto o).takePins l = (s.takePins l).onto o := by
  induction l generalizing s with
  | nil => rfl
  | cons i rest ih =>
    unfold State.takePins
    rw [← ih]
    exact congrArg (fun t : State => t.takePins rest) (State.inputEventNoPass_onto s o (.flt i) _)

theorem State.pinsEndWindDown_onto (s o : State) (l : List FltPin) :
    (s.onto o).pinsEndWindDown l = s.pinsEndWindDown l := by
  induction l generalizing s with
  | nil => rfl
  | cons i rest ih =>
    unfold State.pinsEndWindDown
    rw [← ih (s.inputEventNoPass (.flt i) (!s.input (.flt i))), ← State.inputEventNoPass_onto]
    rfl

/-! ### The session table -/

theorem State.reclaim_onto (s o : State) (p : Port) : (s.onto o).reclaim p = (s.reclaim p).onto o := by
  unfold State.reclaim
  rw [← State.allocationPass_onto]
  refine congrArg State.allocationPass (foldl_onto o (fun t i => ?_) allSlots s)
  change (match t.record i with | some r => _ | none => _) = _
  cases t.record i with
  | none => rfl
  | some r =>
    simp only
    split
    · exact State.dropRecord_onto t o i
    · rfl

theorem State.clearSoft_onto (s o : State) (p : Port) : (s.onto o).clearSoft p = (s.clearSoft p).onto o := by
  unfold State.clearSoft
  change (if (s.session p).soft then _ else _) = _
  split
  · exact State.inputEvent_onto (s.setSession p { s.session p with soft := false }) o _ _
  · rfl

theorem State.endSession_onto (s o : State) (p : Port) (result : SessionState) :
    (s.onto o).endSession p result = (s.endSession p result).onto o := by
  unfold State.endSession
  simp only
  rw [State.reclaim_onto, State.clearSoft_onto]
  rfl

/-! ### Measurements -/

theorem State.reportTrip_onto (s o : State) (b : ChannelRecord) (c : Channel) (m : Nat) :
    (s.onto o).reportTrip b c m = (s.reportTrip b c m).onto o := by
  unfold State.reportTrip
  split
  · exact State.allocationPass_onto (s.idleReached c) o
  · split
    · next h _ =>
      unfold State.tripReport
      change (match s.resolve h with | none => _ | some r => _) = _
      cases s.resolve h with
      | none => exact State.allocationPass_onto s o
      | some r =>
        simp only
        rw [← State.allocationPass_onto, ← State.notify_onto]
        congr 1
        split <;> rfl
    · exact State.allocationPass_onto s o

theorem State.afterTrip_onto (s o : State) (b : ChannelRecord) (c : Channel) (m : Nat) :
    (s.onto o).afterTrip b c m = (s.afterTrip b c m).onto o := by
  unfold State.afterTrip
  change (if s.tripanyWatched = true ∧ s.input .tripany = false then
    (if Config.tripanyFirst s.choice then _ else _) else _) = _
  split
  · simp only
    split
    · rw [← State.reportTrip_onto, ← State.followTripany_onto]; rfl
    · rw [← State.followTripany_onto, ← State.reportTrip_onto]; rfl
  · rw [State.reportTrip_onto, State.followTripany_onto]

theorem State.measurement_onto (s o : State) (c : Channel) (m : Nat) :
    (s.onto o).measurement c m = (s.measurement c m).onto o := by
  unfold State.measurement
  simp only
  change (match ((s.channel c).measure m (s.holderPort c)).2 with
    | .none => _ | .settled => _ | .limited => _ | .idleReached => _ | .tripped => _) = _
  cases ((s.channel c).measure m (s.holderPort c)).2 with
  | none => rfl
  | settled => exact State.notifyHolder_onto (s.setChannel c ((s.channel c).measure m (s.holderPort c)).1) o _ _ _
  | limited => exact State.notifyHolder_onto (s.setChannel c ((s.channel c).measure m (s.holderPort c)).1) o _ _ _
  | idleReached =>
    exact State.allocationPass_onto ((s.setChannel c ((s.channel c).measure m (s.holderPort c)).1).idleReached c) o
  | tripped => exact State.afterTrip_onto (s.setChannel c ((s.channel c).measure m (s.holderPort c)).1) o _ c m

end Sys2Proof.Machine
end

