-- ==== Sys2Proof/Laws/Allocator.lean ====
section
/-! SUPPORT. The allocator's operations: what each can change, once, and what it leaves. -/

namespace Sys2Proof.Machine

/-! ### Freeing a record -/

theorem State.freeSlot_eq (s : State) (i : Fin 24) (r : Claim) : s.freeSlot i r = withSlotFreed s i r := rfl

theorem State.lowerGranted_eq (s : State) (amount : Nat) : s.lowerGranted amount = withGrantedLowered s amount := rfl

/-- IDLE REACHED takes the channel's release amount out of the releasing sum (R36). -/
theorem State.idleReached_eq (s : State) (c : Channel) :
    s.idleReached c =
      { s with
        releases := s.releases.set c 0
        budget := { s.budget with releasing := s.budget.releasing - s.releaseOf c } } := rfl

/-- RELEASE to a loop changes its record, its release amount and the releasing sum alone (R28). -/
theorem State.sendRelease_frame (s : State) (c : Channel) (amount : Nat) :
    s.sendRelease c amount =
      { s with
        channels := s.channels.set c ((s.channel c).release amount)
        releases := (s.sendRelease c amount).releases
        budget := { s.budget with releasing := (s.sendRelease c amount).budget.releasing } } := by
  unfold State.sendRelease
  split <;> rfl

/-- RELEASE in a granted state ends the grant: the wind-down from a settle state with drive above 0, and IDLE at once
otherwise (R71, R74). -/
theorem State.sendRelease_eq (s : State) (c : Channel) (amount : Nat) (hg : (s.channel c).state.grantedState = true) :
    s.sendRelease c amount = withGrantEnded s c amount := by
  have idle : ∀ t : State, t = (s.addRelease c amount).setChannel c (s.channel c).toIdle →
      t.idleReached c = withIdled s c := by
    rintro t rfl
    have h : ((s.addRelease c amount).setChannel c (s.channel c).toIdle).releaseOf c = amount := by
      simp [State.releaseOf, State.setChannel, State.addRelease, State.setRelease]
    rw [State.idleReached_eq, h]
    simp [State.setChannel, State.addRelease, State.setRelease, withIdled, ChannelRecord.toIdle,
      ChannelRecord.idled]
  have wind : ∀ x : ChannelRecord, x = { s.channel c with state := .releasing, holder := none, target := amount } →
      (s.addRelease c amount).setChannel c x = withWindDown s c amount := by
    rintro x rfl; rfl
  unfold State.sendRelease withGrantEnded
  cases hs : (s.channel c).state <;> simp [hs, LoopState.grantedState] at hg <;>
    simp [ChannelRecord.release, ChannelRecord.releaseReachesIdle, LoopState.settling, hs]
  case held => exact idle _ rfl
  all_goals
    rcases Nat.eq_zero_or_pos (s.channel c).drive with h | h
    · simpa [h] using idle _ rfl
    · simpa [h, Nat.ne_of_gt h] using wind _ rfl

/-- A record is freed as RELEASE frees it (R14). -/
theorem State.dropRecord_eq (s : State) (i : Fin 24) (r : Claim) (hr : s.record i = some r)
    (hg : r.state = .granted → (s.channel r.channel).state.grantedState = true) :
    s.dropRecord i = withClaimEnded s i r := by
  unfold State.dropRecord withClaimEnded
  simp only [hr]
  cases h : r.state with
  | pending => rfl
  | granted => exact State.sendRelease_eq _ _ _ (hg h)

theorem State.dropRecord_of_free (s : State) (i : Fin 24) (h : s.record i = none) : s.dropRecord i = s := by
  simp [State.dropRecord, h]

/-- Freeing a record changes its slot, its port's count, the two sums, and its channel's record and release amount. -/
theorem State.dropRecord_frame (s : State) (i : Fin 24) :
    s.dropRecord i =
      { s with
        slots := (s.dropRecord i).slots
        counts := (s.dropRecord i).counts
        channels := (s.dropRecord i).channels
        releases := (s.dropRecord i).releases
        budget := { s.budget with granted := (s.dropRecord i).budget.granted
                                  releasing := (s.dropRecord i).budget.releasing } } := by
  unfold State.dropRecord
  cases s.record i with
  | none => rfl
  | some r =>
    cases h : r.state with
    | pending => simp only [h]; rfl
    | granted => simp only [h]; rw [State.sendRelease_frame]; rfl

/-- The slot that held the record is free at its next generation (R2). -/
theorem State.slot_dropRecord_self (s : State) (i : Fin 24) (r : Claim) (hr : s.record i = some r) :
    (s.dropRecord i).slot i = ⟨(s.slot i).gen + 1#8, none⟩ := by
  unfold State.dropRecord
  simp only [hr]
  cases h : r.state with
  | pending => simp [State.freeSlot]
  | granted =>
    simp only
    rw [State.sendRelease_frame]
    simp [State.slot, State.lowerGranted, State.freeSlot, State.setSlot, State.setCount]

theorem State.slot_dropRecord_ne (s : State) {i j : Fin 24} (h : j ≠ i) : (s.dropRecord i).slot j = s.slot j := by
  unfold State.dropRecord
  cases s.record i with
  | none => rfl
  | some r =>
    cases hs : r.state with
    | pending => simp only [hs]; exact State.slot_setSlot_ne s _ h
    | granted =>
      simp only [hs]
      rw [State.sendRelease_frame]
      exact State.slot_setSlot_ne s _ h

/-! ### Wait order -/

theorem Claim.notBehind_iff (a b : Claim) :
    a.notBehind b = true ↔ a.cls < b.cls ∨ (a.cls = b.cls ∧ a.stamp ≤ b.stamp) := by
  simp [Claim.notBehind]

theorem Claim.notBehind_refl (a : Claim) : a.notBehind a = true := by simp [Claim.notBehind]

theorem Claim.notBehind_total (a b : Claim) : a.notBehind b = true ∨ b.notBehind a = true := by
  simp only [Claim.notBehind_iff]; omega

theorem Claim.notBehind_trans {a b c : Claim} (h : a.notBehind b = true) (h' : b.notBehind c = true) :
    a.notBehind c = true := by
  simp only [Claim.notBehind_iff] at *; omega

theorem State.insertSlot_perm (s : State) (i : Fin 24) (l : List (Fin 24)) : (s.insertSlot i l).Perm (i :: l) := by
  induction l with
  | nil => exact List.Perm.refl _
  | cons j rest ih =>
    unfold State.insertSlot
    split
    · exact List.Perm.refl _
    · exact (ih.cons j).trans (List.Perm.swap i j rest)

/-- Putting slots in wait order neither adds nor drops one. -/
theorem State.inWaitOrder_perm (s : State) (l : List (Fin 24)) : (s.inWaitOrder l).Perm l := by
  induction l with
  | nil => exact List.Perm.refl _
  | cons i rest ih => exact (s.insertSlot_perm i _).trans (ih.cons i)

theorem State.recordIs_iff (s : State) (st : ClaimState) (i : Fin 24) :
    s.recordIs st i = true ↔ ∃ r, s.record i = some r ∧ r.state = st := by
  unfold State.recordIs
  cases s.record i <;> simp

/-- The wait queue holds every PENDING record's slot once and no other (R10). -/
theorem State.mem_waitQueue (s : State) (i : Fin 24) :
    i ∈ s.waitQueue ↔ ∃ r, s.record i = some r ∧ r.state = .pending := by
  rw [State.waitQueue, (s.inWaitOrder_perm _).mem_iff, List.mem_filter, State.recordIs_iff]
  simp

theorem State.nodup_waitQueue (s : State) : s.waitQueue.Nodup :=
  ((s.inWaitOrder_perm _).nodup_iff).mpr ((List.nodup_finRange 24).filter _)

theorem State.insertSlot_sorted (s : State) (i : Fin 24) (l : List (Fin 24))
    (hl : ∀ j ∈ i :: l, (s.record j).isSome = true) (h : l.Pairwise fun j k => s.slotNotBehind j k = true) :
    (s.insertSlot i l).Pairwise fun j k => s.slotNotBehind j k = true := by
  have total : ∀ j k, s.slotNotBehind j k = true ∨ s.slotNotBehind k j = true := by
    intro j k
    unfold State.slotNotBehind
    cases s.record j <;> cases s.record k <;> simp [Claim.notBehind_total]
  have trans : ∀ j k m, (s.record k).isSome = true → s.slotNotBehind j k = true → s.slotNotBehind k m = true →
      s.slotNotBehind j m = true := by
    intro j k m
    unfold State.slotNotBehind
    cases s.record j <;> cases s.record k <;> cases s.record m <;> simp
    exact Claim.notBehind_trans
  induction l with
  | nil => simp [State.insertSlot]
  | cons j rest ih =>
    unfold State.insertSlot
    have hj := List.pairwise_cons.mp h
    split
    · next hij =>
      refine List.pairwise_cons.mpr ⟨fun k hk => ?_, h⟩
      rcases List.mem_cons.mp hk with rfl | hk
      · exact hij
      · exact trans i j k (hl j (by simp)) hij (hj.1 k hk)
    · next hij =>
      refine List.pairwise_cons.mpr ⟨fun k hk => ?_, ih (fun m hm => hl m ?_) hj.2⟩
      · rcases List.mem_cons.mp ((s.insertSlot_perm i rest).mem_iff.mp hk) with rfl | hk
        · exact (total k j).resolve_left hij
        · exact hj.1 k hk
      · rcases List.mem_cons.mp hm with rfl | hm <;> simp [*]

/-- The list put in wait order stands in wait order (R10). -/
theorem State.inWaitOrder_sorted (s : State) (l : List (Fin 24)) (hl : ∀ j ∈ l, (s.record j).isSome = true) :
    (s.inWaitOrder l).Pairwise fun j k => s.slotNotBehind j k = true := by
  induction l with
  | nil => exact List.Pairwise.nil
  | cons i rest ih =>
    refine s.insertSlot_sorted i _ (fun j hj => hl j ?_) (ih fun j hj => hl j (List.mem_cons_of_mem _ hj))
    exact ((s.inWaitOrder_perm rest).cons i).mem_iff.mp hj

theorem State.waitQueue_sorted (s : State) : s.waitQueue.Pairwise fun j k => s.slotNotBehind j k = true := by
  refine s.inWaitOrder_sorted _ fun j hj => ?_
  obtain ⟨r, hr, -⟩ := (s.recordIs_iff .pending j).mp (List.mem_filter.mp hj).2
  simp [hr]

/-! ### The allocation pass -/

/-- A grant of one slot: the record is GRANTED, the granted sum rises, the loop takes GRANT, and the owner is told (R31). -/
theorem State.grantSlot_eq (s : State) (i : Fin 24) (r : Claim) :
    s.grantSlot i r =
      { s with
        slots := s.slots.set i ⟨(s.slot i).gen, some { r with state := .granted }⟩
        budget := { s.budget with granted := s.budget.granted + r.amount }
        channels := s.channels.set r.channel ((s.channel r.channel).grant (s.handleAt i) r.amount)
        notices := withNotice s r.port (noticeOf s .granted r.channel (some (s.handleAt i)) (some r.amount)) } := by
  have h : ∀ x : Slot, x.gen = (s.slot i).gen → (s.setSlot i x).handleAt i = s.handleAt i := by
    intro x hx; simp [State.handleAt, hx]
  unfold State.grantSlot
  simp only
  rw [State.notify_eq]
  simp only [State.raiseGranted, State.setChannel]
  have h1 := h ⟨(s.slot i).gen, some { r with state := .granted }⟩ rfl
  simp only [State.handleAt, State.slot, State.setSlot] at h1 ⊢
  simp only [h1]
  rfl

/-- A walk of the queue either stops as it is, or grants one record, eligible and within the headroom, and walks on. -/
theorem State.walkQueue_cases (s : State) (l : List (Fin 24)) :
    s.walkQueue l = s ∨
      ∃ i r rest, i :: rest <:+ l ∧ s.record i = some r ∧ r.state = .pending ∧ s.eligible r = true ∧
        (r.amount : Int) ≤ s.headroom ∧ s.walkQueue l = (s.grantSlot i r).walkQueue rest := by
  induction l with
  | nil => exact .inl rfl
  | cons i rest ih =>
    have skip (h : s.walkQueue (i :: rest) = s.walkQueue rest) : s.walkQueue (i :: rest) = s ∨
        ∃ j r more, j :: more <:+ i :: rest ∧ s.record j = some r ∧ r.state = .pending ∧ s.eligible r = true ∧
          (r.amount : Int) ≤ s.headroom ∧ s.walkQueue (i :: rest) = (s.grantSlot j r).walkQueue more := by
      rw [h]
      rcases ih with ih | ⟨j, r, more, hs, h'⟩
      · exact .inl ih
      · exact .inr ⟨j, r, more, hs.trans (List.suffix_cons i rest), h'⟩
    cases hr : s.record i with
    | none => exact skip (by simp [State.walkQueue, hr])
    | some r =>
      by_cases he : r.state = .pending ∧ s.eligible r = true
      · by_cases hh : (r.amount : Int) ≤ s.headroom
        · exact .inr ⟨i, r, rest, List.suffix_refl _, hr, he.1, he.2, hh, by simp [State.walkQueue, hr, he, hh]⟩
        · exact .inl (by simp [State.walkQueue, hr, he, hh])
      · exact skip (by simp [State.walkQueue, hr, he])

/-- What a property needs for every pass to keep it: that one grant keeps it. -/
theorem State.walkQueue_induction {P : State → Prop}
    (grant : ∀ s i r, P s → s.record i = some r → r.state = .pending → s.eligible r = true →
      (r.amount : Int) ≤ s.headroom → P (s.grantSlot i r)) (s : State) (l : List (Fin 24)) (h : P s) :
    P (s.walkQueue l) := by
  induction l generalizing s with
  | nil => exact h
  | cons i rest ih =>
    unfold State.walkQueue
    split
    · next r hr =>
      split
      · next he =>
        split
        · next hh => exact ih _ (grant s i r h hr he.1 he.2 hh)
        · exact h
      · exact ih s h
    · exact ih s h

theorem State.allocationPass_induction {P : State → Prop}
    (grant : ∀ s i r, P s → s.record i = some r → r.state = .pending → s.eligible r = true →
      (r.amount : Int) ≤ s.headroom → P (s.grantSlot i r)) (s : State) (h : P s) : P s.allocationPass :=
  State.walkQueue_induction grant s _ h

/-- A pass changes the slots, the channel records, the granted sum and the notice queues alone (R31). -/
theorem State.allocationPass_frame (s : State) :
    s.allocationPass =
      { s with
        slots := s.allocationPass.slots
        channels := s.allocationPass.channels
        notices := s.allocationPass.notices
        budget := { s.budget with granted := s.allocationPass.budget.granted } } := by
  refine State.allocationPass_induction
    (P := fun t => t = { s with slots := t.slots, channels := t.channels, notices := t.notices
                                budget := { s.budget with granted := t.budget.granted } }) ?_ s rfl
  intro t i r h _ _ _ _
  rw [State.grantSlot_eq]
  simp only
  rw [h]

/-- A pass frees no record and makes none: each slot keeps its generation and its record up to the claim state. -/
theorem State.allocationPass_slot (s : State) (i : Fin 24) :
    (s.allocationPass.slot i).gen = (s.slot i).gen ∧
      (s.allocationPass.record i = s.record i ∨
        ∃ r, s.record i = some r ∧ r.state = .pending ∧ s.allocationPass.record i = some { r with state := .granted }) := by
  refine State.allocationPass_induction
    (P := fun t => (t.slot i).gen = (s.slot i).gen ∧ (t.record i = s.record i ∨
      ∃ r, s.record i = some r ∧ r.state = .pending ∧ t.record i = some { r with state := .granted })) ?_ s ⟨rfl, .inl rfl⟩
  intro t j r h hr hp _ _
  have hslot : (t.grantSlot j r).slot i = if i = j then ⟨(t.slot j).gen, some { r with state := .granted }⟩ else t.slot i := by
    rw [State.grantSlot_eq]; exact State.slot_setSlot t j i _
  by_cases hij : i = j
  · subst hij
    simp only [if_true] at hslot
    refine ⟨by rw [hslot]; exact h.1, .inr ⟨r, ?_, hp, by simp [State.record, hslot]⟩⟩
    rcases h.2 with h2 | ⟨q, _, _, h2⟩
    · rw [← h2]; exact hr
    · rw [hr] at h2; cases h2; cases hp
  · simp only [if_neg hij] at hslot
    simpa [State.record, hslot] using h

/-! ### Shedding -/

/-- What a property needs for all shedding to keep it: that one shed keeps it. -/
theorem State.shedWalk_induction {P : State → Prop}
    (shed : ∀ s i r, P s → s.record i = some r → r.state = .granted → s.budget.effective < s.budget.granted →
      P (s.shedRecord i r)) (s : State) (l : List (Fin 24)) (h : P s) : P (s.shedWalk l) := by
  induction l generalizing s with
  | nil => exact h
  | cons i rest ih =>
    unfold State.shedWalk
    split
    · next hb =>
      refine ih _ ?_
      unfold State.shedSlot
      split
      · next r hr =>
        split
        · next hg => exact shed s i r h hr hg hb
        · exact h
      · exact h
    · exact h

theorem State.shed_induction {P : State → Prop}
    (shed : ∀ s i r, P s → s.record i = some r → r.state = .granted → s.budget.effective < s.budget.granted →
      P (s.shedRecord i r)) (s : State) (h : P s) : P s.shed := State.shedWalk_induction shed s _ h

/-- A shed of one record changes its slot, its channel's record and release amount, the two sums, and its owner's notice
queue (R34). -/
theorem State.shedRecord_frame (s : State) (i : Fin 24) (r : Claim) :
    s.shedRecord i r =
      { s with
        slots := s.slots.set i ⟨(s.slot i).gen, some { r with state := .pending, shed := min 255 (r.shed + 1) }⟩
        channels := s.channels.set r.channel ((s.channel r.channel).release r.amount)
        releases := (s.shedRecord i r).releases
        notices := (s.shedRecord i r).notices
        budget := { s.budget with granted := s.budget.granted - r.amount
                                  releasing := (s.shedRecord i r).budget.releasing } } := by
  unfold State.shedRecord
  simp only
  rw [State.notify_eq, State.sendRelease_frame]
  rfl

/-- Shedding changes the slots, the channel records, the release amounts, the two sums and the notice queues alone. -/
theorem State.shed_frame (s : State) :
    s.shed =
      { s with
        slots := s.shed.slots
        channels := s.shed.channels
        releases := s.shed.releases
        notices := s.shed.notices
        budget := { s.budget with granted := s.shed.budget.granted, releasing := s.shed.budget.releasing } } := by
  refine State.shed_induction
    (P := fun t => t = { s with slots := t.slots, channels := t.channels, releases := t.releases, notices := t.notices
                                budget := { s.budget with granted := t.budget.granted
                                                          releasing := t.budget.releasing } }) ?_ s rfl
  intro t i r h _ _ _
  rw [State.shedRecord_frame]
  simp only
  rw [h]

/-! ### A change of the budget -/

/-- BUDGET notices change the notice queues alone (R24). -/
theorem State.notifyBudget_frame (s : State) : s.notifyBudget = { s with notices := s.notifyBudget.notices } := by
  unfold State.notifyBudget
  simp only [allPorts, List.foldl_cons, List.foldl_nil, State.notify_eq]

/-- What follows a change of a budget or of the DERATE state changes the slots, the channel records, the release amounts,
the effective budget, the two sums and the notice queues alone (R21, R22). -/
theorem State.reformBudget_frame (s : State) (mayShed : Bool) :
    s.reformBudget mayShed =
      { s with
        slots := (s.reformBudget mayShed).slots
        channels := (s.reformBudget mayShed).channels
        releases := (s.reformBudget mayShed).releases
        notices := (s.reformBudget mayShed).notices
        budget := { s.budget with effective := s.budget.formed
                                  granted := (s.reformBudget mayShed).budget.granted
                                  releasing := (s.reformBudget mayShed).budget.releasing } } := by
  unfold State.reformBudget
  simp only
  rw [State.allocationPass_frame]
  cases mayShed <;> simp only [Bool.false_eq_true, if_false, if_true] <;> split
  · rfl
  · rw [State.notifyBudget_frame]
  · rw [State.shed_frame]
  · rw [State.notifyBudget_frame, State.shed_frame]

end Sys2Proof.Machine
end

