-- ==== Sys2Proof/Laws/TripUnit.lean ====
section
/-! SUPPORT. The trip unit's operations: what each can change, once, and what it leaves. -/

namespace Sys2Proof.Machine

/-! ### Inputs -/

theorem TripInput.number_lt (i : TripInput) : i.number < 10 := by
  cases i with
  | flt pin => simp only [TripInput.number]; omega
  | soft p => cases p <;> decide
  | _ => decide

theorem TripInput.number_injective {i j : TripInput} (h : i.number = j.number) : i = j := by
  cases i with
  | flt a =>
    cases j with
    | flt b => exact congrArg TripInput.flt (Fin.ext h)
    | soft q => cases q <;> simp only [TripInput.number] at h <;> omega
    | _ => simp only [TripInput.number] at h; omega
  | soft p =>
    cases j with
    | flt b => cases p <;> simp only [TripInput.number] at h <;> omega
    | soft q => cases p <;> cases q <;> first | rfl | exact absurd h (by decide)
    | _ => cases p <;> exact absurd h (by decide)
  | rail =>
    cases j with
    | flt b => simp only [TripInput.number] at h; omega
    | soft q => cases q <;> exact absurd h (by decide)
    | rail => rfl
    | tripany => exact absurd h (by decide)
  | tripany =>
    cases j with
    | flt b => simp only [TripInput.number] at h; omega
    | soft q => cases q <;> exact absurd h (by decide)
    | tripany => rfl
    | rail => exact absurd h (by decide)

theorem setInput_getLsbD (inputs : BitVec 10) (i : TripInput) (v : Bool) (k : Nat) :
    (setInput inputs i v).getLsbD k = if k = i.number then v else inputs.getLsbD k := by
  have hi := i.number_lt
  have hone : ∀ m : Nat, (1#10).getLsbD m = decide (m = 0) := by
    intro m; rcases m with _ | m <;> simp
  cases v <;> simp only [setInput, Bool.false_eq_true, if_false, if_true, BitVec.getLsbD_or, BitVec.getLsbD_and,
    BitVec.getLsbD_not, BitVec.getLsbD_shiftLeft, hone]
  · by_cases h : k = i.number
    · subst h; simp [hi]
    · by_cases hk : k < 10
      · have : ¬ (¬ k < i.number ∧ k - i.number = 0) := by omega
        simp only [h, if_false, hk, decide_true, Bool.true_and]
        by_cases h1 : k < i.number <;> simp [h1] ; omega
      · simp [h, hk]
        exact BitVec.getLsbD_of_ge inputs k (by omega)
  · by_cases h : k = i.number
    · subst h; simp [hi]
    · by_cases h1 : k < i.number
      · simp [h, h1]
      · have : ¬ k - i.number = 0 := by omega
        simp [h, this]

/-- One input's recorded state is replaced, and no other's (R101). -/
theorem State.input_recordInput (s : State) (i j : TripInput) (v : Bool) :
    (s.recordInput i v).input j = if j = i then v else s.input j := by
  unfold State.input State.recordInput
  rw [State.setTrip_trip, setInput_getLsbD]
  by_cases h : j = i
  · simp [h]
  · have hn : j.number ≠ i.number := fun e => h (TripInput.number_injective e)
    simp [h, hn]

/-! ### Groups -/

/-- A group's input condition, input by input (R104). -/
theorem Group.condition_eq (g : Group) (inputs : BitVec 10) : g.condition inputs = conditionOf g inputs := by
  unfold Group.condition conditionOf
  refine decide_eq_decide.mpr ⟨fun h => ?_, fun ⟨k, h1, h2⟩ h => ?_⟩
  · by_contra hn
    refine h (BitVec.eq_of_getLsbD_eq fun i hi => ?_)
    rw [BitVec.getLsbD_and, BitVec.getLsbD_zero]
    by_contra hb
    exact hn ⟨⟨i, hi⟩, by simp_all⟩
  · have hk : g.inputs[k.val] = true → inputs[k.val] = false := by
      simpa using congrArg (fun b : BitVec 10 => b[k]) h
    exact absurd ((hk h1).symm.trans h2) Bool.false_ne_true

/-- A group settled against the inputs has the state of the table of R104, and is as it was otherwise. -/
theorem Group.settle_eq (g : Group) (inputs : BitVec 10) :
    g.settle inputs = { g with state := tableState g.state g.mode (conditionOf g inputs) } := by
  unfold Group.settle
  rw [Group.condition_eq]
  cases h : conditionOf g inputs
  · cases hs : g.state <;> cases hm : g.mode <;> simp [tableState] <;> cases g <;> simp_all
  · simp [tableState]

theorem holdFormed_eq (groups : Vector Group 4) (c : Channel) : holdFormed groups c = heldBy groups c := by
  unfold holdFormed heldBy
  rw [Bool.eq_iff_iff]
  simp [allGroups, List.any_eq_true, Group.holds, Group.holding, BitVec.getLsbD_eq_getElem]

theorem faultFormed_eq (groups : Vector Group 4) : faultFormed groups = someGroupHolds groups := by
  unfold faultFormed someGroupHolds
  rw [Bool.eq_iff_iff]
  simp [allGroups, List.any_eq_true, Group.holding]

/-! ### HOLD and UNHOLD -/

theorem ChannelRecord.takeHold_eq (r : ChannelRecord) : r.takeHold = r.whenHeld := by
  unfold ChannelRecord.takeHold ChannelRecord.whenHeld
  cases h : r.state <;> simp [ChannelRecord.toIdle, ChannelRecord.idled]

theorem ChannelRecord.takeUnhold_eq (r : ChannelRecord) : r.takeUnhold = r.whenResumed := by
  unfold ChannelRecord.takeUnhold ChannelRecord.whenResumed
  cases h : r.state <;> simp [ChannelRecord.freshSettle]

/-- Forming one channel's hold attribute changes that channel's record, its release amount where a HOLD ends its
wind-down, the releasing sum by as much, and a notice queue (R69, R70, R72). -/
theorem State.formHold_eq (s : State) (before after : Vector Group 4) (c : Channel) :
    s.formHold before after c =
      { s with
        channels := s.channels.set c
          (if heldBy after c = (s.channel c).hold then s.channel c
           else if heldBy after c then (s.channel c).whenHeld else (s.channel c).whenResumed)
        releases :=
          if heldBy after c = true ∧ (s.channel c).hold = false ∧ (s.channel c).state = .releasing then
            s.releases.set c 0
          else s.releases
        budget := { s.budget with
          releasing :=
            if heldBy after c = true ∧ (s.channel c).hold = false ∧ (s.channel c).state = .releasing then
              s.budget.releasing - s.releaseOf c
            else s.budget.releasing }
        notices := (s.formHold before after c).notices } := by
  unfold State.formHold
  rw [holdFormed_eq]
  by_cases h : heldBy after c = (s.channel c).hold
  · have hn : ¬ (heldBy after c = true ∧ (s.channel c).hold = false ∧ (s.channel c).state = .releasing) := by
      rintro ⟨h1, h2, -⟩; simp [h1, h2] at h
    simp only [if_pos h, if_neg hn]
    simp [State.channel]
  · simp only [if_neg h]
    cases hb : heldBy after c
    · have hh : (s.channel c).hold = true := by simpa [hb] using h
      simp only [Bool.false_eq_true, if_false, false_and]
      unfold State.sendUnhold
      simp only
      split
      · rw [State.notifyHolder_eq, ChannelRecord.takeUnhold_eq]; rfl
      · rw [ChannelRecord.takeUnhold_eq]; rfl
    · have hh : (s.channel c).hold = false := by simpa [hb] using h
      simp only [if_true, hh, true_and]
      unfold State.sendHold
      simp only [ChannelRecord.takeHold_eq]
      cases hs : (s.channel c).state <;> simp [LoopState.settling] <;> first | rfl | (rw [State.notifyHolder_eq]; rfl)

/-- Forming the hold attributes changes the groups, FAULT, the channel records, the release amounts, the releasing sum and
the notice queues alone (R105 steps 3 and 4). -/
theorem State.putGroups_frame (s : State) (after : Vector Group 4) :
    s.putGroups after =
      { s with
        trip := { s.trip with groups := after, fault := someGroupHolds after }
        channels := (s.putGroups after).channels
        releases := (s.putGroups after).releases
        notices := (s.putGroups after).notices
        budget := { s.budget with releasing := (s.putGroups after).budget.releasing } } := by
  unfold State.putGroups
  simp only [faultFormed_eq]
  have h : ∀ (l : List Channel) (t : State),
      l.foldl (fun t c => t.formHold s.trip.groups after c) t =
        { t with
          channels := (l.foldl (fun t c => t.formHold s.trip.groups after c) t).channels
          releases := (l.foldl (fun t c => t.formHold s.trip.groups after c) t).releases
          notices := (l.foldl (fun t c => t.formHold s.trip.groups after c) t).notices
          budget := { t.budget with
            releasing := (l.foldl (fun t c => t.formHold s.trip.groups after c) t).budget.releasing } } := by
    intro l
    induction l with
    | nil => intro t; rfl
    | cons c rest ih => intro t; rw [List.foldl_cons, ih, State.formHold_eq]
  rw [h]
  rfl

/-- A trip-unit action changes, besides those, the slots and the granted sum, by the pass that may end it. -/
theorem State.tripAction_frame (s : State) (after : Vector Group 4) :
    s.tripAction after =
      { s with
        trip := { s.trip with groups := after, fault := someGroupHolds after }
        slots := (s.tripAction after).slots
        channels := (s.tripAction after).channels
        releases := (s.tripAction after).releases
        notices := (s.tripAction after).notices
        budget := { s.budget with granted := (s.tripAction after).budget.granted
                                  releasing := (s.tripAction after).budget.releasing } } := by
  unfold State.tripAction
  split
  · rw [State.allocationPass_frame, State.putGroups_frame]
  · rw [State.putGroups_frame]

/-- The groups that an input event leaves (R105 step 2). -/
theorem State.group_settledGroups (s : State) (g : Fin 4) :
    s.settledGroups[g] =
      { s.group g with state := tableState (s.group g).state (s.group g).mode (conditionOf (s.group g) s.trip.inputs) } := by
  simp [State.settledGroups, Group.settle_eq]

/-- An input event changes the trip unit's inputs, groups and FAULT, the slots, the channel records, the release amounts,
the two sums and the notice queues alone (R105). -/
theorem State.inputEvent_frame (s : State) (i : TripInput) (v : Bool) :
    s.inputEvent i v =
      { s with
        trip := { s.trip with inputs := setInput s.trip.inputs i v
                              groups := (s.recordInput i v).settledGroups
                              fault := someGroupHolds (s.recordInput i v).settledGroups }
        slots := (s.inputEvent i v).slots
        channels := (s.inputEvent i v).channels
        releases := (s.inputEvent i v).releases
        notices := (s.inputEvent i v).notices
        budget := { s.budget with granted := (s.inputEvent i v).budget.granted
                                  releasing := (s.inputEvent i v).budget.releasing } } :=
  State.tripAction_frame (s.recordInput i v) (s.recordInput i v).settledGroups

theorem State.input_inputEvent (s : State) (i j : TripInput) (v : Bool) :
    (s.inputEvent i v).input j = if j = i then v else s.input j := by
  rw [← State.input_recordInput]
  unfold State.input
  rw [State.inputEvent_frame]
  rfl

/-- TRIPANY follows the loops: an input event where it changes, and nothing where it does not (R81, R112). -/
theorem State.followTripany_frame (s : State) :
    s.followTripany =
      { s with
        trip := { s.trip with inputs := s.followTripany.trip.inputs
                              groups := s.followTripany.trip.groups
                              fault := s.followTripany.trip.fault }
        slots := s.followTripany.slots
        channels := s.followTripany.channels
        releases := s.followTripany.releases
        notices := s.followTripany.notices
        budget := { s.budget with granted := s.followTripany.budget.granted
                                  releasing := s.followTripany.budget.releasing } } := by
  unfold State.followTripany
  split
  · rfl
  · rw [State.inputEvent_frame]

theorem State.input_followTripany (s : State) (j : TripInput) :
    s.followTripany.input j = if j = .tripany then s.anyTripped else s.input j := by
  unfold State.followTripany
  split
  · next h => split <;> simp_all
  · exact State.input_inputEvent s .tripany j _

end Sys2Proof.Machine
end

