-- ==== Sys2Proof/Laws/Sessions.lean ====
section
/-! SUPPORT. The session table's operations: what each can change, once, and what it leaves. -/

namespace Sys2Proof.Machine

/-! ### Reclaim -/

/-- What a property needs for a reclaim to keep it: that freeing one record of the port keeps it, and that one grant
does. -/
theorem State.reclaim_induction {P : State → Prop} (p : Port)
    (drop : ∀ s i r, P s → s.record i = some r → r.port = p → P (s.dropRecord i))
    (grant : ∀ s i r, P s → s.record i = some r → r.state = .pending → s.eligible r = true →
      (r.amount : Int) ≤ s.headroom → P (s.grantSlot i r)) (s : State) (h : P s) : P (s.reclaim p) := by
  refine State.allocationPass_induction grant _ ?_
  generalize allSlots = l
  induction l generalizing s with
  | nil => exact h
  | cons i rest ih =>
    refine ih _ ?_
    show P (match s.record i with | some r => if r.port = p then s.dropRecord i else s | none => s)
    split
    · next r hr =>
      split
      · next hp => exact drop s i r h hr hp
      · exact h
    · exact h

/-- A reclaim changes the slots, the counts, the channel records, the release amounts, the two sums and the notice queues
alone (R17). -/
theorem State.reclaim_frame (s : State) (p : Port) :
    s.reclaim p =
      { s with
        slots := (s.reclaim p).slots
        counts := (s.reclaim p).counts
        channels := (s.reclaim p).channels
        releases := (s.reclaim p).releases
        notices := (s.reclaim p).notices
        budget := { s.budget with granted := (s.reclaim p).budget.granted
                                  releasing := (s.reclaim p).budget.releasing } } := by
  refine State.reclaim_induction
    (P := fun t => t = { s with slots := t.slots, counts := t.counts, channels := t.channels, releases := t.releases
                                notices := t.notices
                                budget := { s.budget with granted := t.budget.granted
                                                          releasing := t.budget.releasing } }) p ?_ ?_ s rfl
  · intro t i r h _ _
    rw [State.dropRecord_frame]
    simp only
    rw [h]
  · intro t i r h _ _ _ _
    rw [State.grantSlot_eq]
    simp only
    rw [h]

/-- A slot that holds no record of the port is freed by no step of a reclaim: it keeps its generation, and its record up to
the claim state. -/
theorem State.reclaim_slot_of_other (s : State) (p : Port) (i : Fin 24) (h : ∀ r, s.record i = some r → r.port ≠ p) :
    ((s.reclaim p).slot i).gen = (s.slot i).gen ∧
      ((s.reclaim p).record i).map Claim.upToState = (s.record i).map Claim.upToState := by
  refine And.imp_right And.left (State.reclaim_induction
    (P := fun t => (t.slot i).gen = (s.slot i).gen ∧
      (t.record i).map Claim.upToState = (s.record i).map Claim.upToState ∧ ∀ r, t.record i = some r → r.port ≠ p)
    p ?_ ?_ s ⟨rfl, rfl, h⟩)
  · intro t j r ht hr hp
    have hij : i ≠ j := by rintro rfl; exact ht.2.2 r hr hp
    have hs := t.slot_dropRecord_ne hij
    simpa [State.record, hs] using ht
  · intro t j r ht hr _ _ _
    have hs : (t.grantSlot j r).slot i =
        if i = j then ⟨(t.slot j).gen, some { r with state := .granted }⟩ else t.slot i := by
      rw [State.grantSlot_eq]; exact State.slot_setSlot t j i _
    by_cases hij : i = j
    · subst hij
      simp only [if_true] at hs
      refine ⟨by rw [hs]; exact ht.1, ?_, ?_⟩
      · rw [← ht.2.1, hr]; simp [State.record, hs, Claim.upToState]
      · intro q hq
        simp only [State.record, hs, Option.some.injEq] at hq
        subst hq
        exact ht.2.2 r hr
    · simp only [if_neg hij] at hs
      simpa [State.record, hs] using ht

/-! ### The end of a session -/

/-- The fall of a port's soft bit changes its bit, the trip unit and what an input event can change (R111). -/
theorem State.clearSoft_frame (s : State) (p : Port) :
    s.clearSoft p =
      { s with
        sessions := s.sessions.set p { s.session p with soft := false }
        trip := { s.trip with inputs := (s.clearSoft p).trip.inputs
                              groups := (s.clearSoft p).trip.groups
                              fault := (s.clearSoft p).trip.fault }
        slots := (s.clearSoft p).slots
        channels := (s.clearSoft p).channels
        releases := (s.clearSoft p).releases
        notices := (s.clearSoft p).notices
        budget := { s.budget with granted := (s.clearSoft p).budget.granted
                                  releasing := (s.clearSoft p).budget.releasing } } := by
  unfold State.clearSoft
  split
  · rw [State.inputEvent_frame]; rfl
  · next h =>
    have hs : ({ s.session p with soft := false } : Session) = s.session p := by
      cases hx : s.session p; simp_all
    rw [hs]
    simp [State.session]

/-- The end of a session changes the port's session record to its ended values and its notice queue to an empty one, and,
besides, what the reclaim and the soft bit's fall can change (R123). -/
theorem State.endSession_frame (s : State) (p : Port) (result : SessionState) :
    s.endSession p result =
      { s with
        sessions := s.sessions.set p
          { s.session p with state := result, current := none, next := none, remaining := 0, warned := false
                             soft := false }
        notices := ((s.reclaim p).clearSoft p).notices.set p NoticeQueue.reset
        trip := { s.trip with inputs := (s.endSession p result).trip.inputs
                              groups := (s.endSession p result).trip.groups
                              fault := (s.endSession p result).trip.fault }
        slots := (s.endSession p result).slots
        counts := (s.endSession p result).counts
        channels := (s.endSession p result).channels
        releases := (s.endSession p result).releases
        budget := { s.budget with granted := (s.endSession p result).budget.granted
                                  releasing := (s.endSession p result).budget.releasing } } := by
  unfold State.endSession State.emptyNotices
  simp only
  rw [State.clearSoft_frame, State.reclaim_frame]
  simp [State.setSession, State.setNotices, State.session, Session.ended]

/-! ### The port's waiting command, and ticks -/

/-- A waiting command is discarded and answered LAPSED (R125). -/
theorem State.discardWaiting_eq (s : State) (p : Port) :
    s.discardWaiting p = { s with ports := s.ports.set p (waitingDiscarded (s.port p)) } := by
  unfold State.discardWaiting waitingDiscarded
  cases h : (s.port p).command with
  | none => simp [State.port]
  | some c => simp [State.writeResponse, State.setPort, State.port, PortState.write]

/-- A session that lapses ends, and its port's waiting command is discarded (R124, R127, R129). -/
theorem State.lapse_eq (s : State) (p : Port) :
    s.lapse p = { s.endSession p .lapsed with ports := s.ports.set p (waitingDiscarded (s.port p)) } := by
  unfold State.lapse
  rw [State.discardWaiting_eq]
  have h : (s.endSession p .lapsed).ports = s.ports := by rw [State.endSession_frame]
  simp only [State.port, h]

/-- A tick with no time left after it is the expiry; any other lowers the time remaining, and may make the warning (R119,
R120). -/
theorem State.tick_eq (s : State) (p : Port) :
    s.tick p =
      if (s.session p).remaining - 1 = 0 then
        (s.setSession p { s.session p with remaining := (s.session p).remaining - 1 }).lapse p
      else if (s.session p).remaining - 1 = (s.session p).warningPoint ∧ 0 < (s.session p).warningPoint ∧
          (s.session p).warned = false then
        (s.setSession p { s.session p with remaining := (s.session p).remaining - 1 }).leaseWarning p
      else s.setSession p { s.session p with remaining := (s.session p).remaining - 1 } := rfl

/-- A port reset empties the port and ends its session, whatever its state (R128). -/
theorem State.resetPort_eq (s : State) (p : Port) :
    s.resetPort p =
      match (s.session p).state with
      | .opened => { s.endSession p .closed with ports := s.ports.set p (s.port p).emptied }
      | .lapsed =>
        { s with ports := s.ports.set p (s.port p).emptied
                 notices := s.notices.set p NoticeQueue.reset
                 sessions := s.sessions.set p { s.session p with state := .closed } }
      | .closed => { s with ports := s.ports.set p (s.port p).emptied } := by
  unfold State.resetPort
  have h : (s.setPort p (s.port p).emptied).endSession p .closed =
      { s.endSession p .closed with ports := s.ports.set p (s.port p).emptied } := by
    have := State.endSession_onto s (s.setPort p (s.port p).emptied) p .closed
    refine Eq.trans this ?_
    rw [State.endSession_frame]
    rfl
  change (match (s.session p).state with | .opened => _ | .lapsed => _ | .closed => _) = _
  cases (s.session p).state with
  | opened => exact h
  | lapsed => rfl
  | closed => rfl

end Sys2Proof.Machine
end

