-- ==== Sys2Proof/Laws/Executor.lean ====
section
/-! SUPPORT. The executor: which command it takes, what each check answers, and how a command's effect, computed with the
command taken, reads as an effect on the state before. -/

namespace Sys2Proof.Machine

/-! ### The command taken -/

theorem mem_roundFrom (p q : Port) : q ∈ roundFrom p := by cases p <;> cases q <;> decide

/-- A command taken next waits in its port's slot (R151). -/
theorem State.nextWaiting_command {s : State} {p : Port} {c : Command} (h : s.nextWaiting = some (p, c)) :
    (s.port p).command = some c := by
  obtain ⟨q, -, hq⟩ := List.exists_of_findSome?_eq_some h
  cases hc : (s.port q).command with
  | none => simp [hc] at hq
  | some d => simp only [hc, Option.map_some, Option.some.injEq, Prod.mk.injEq] at hq; rw [← hq.1, hc, hq.2]

/-- The executor takes nothing exactly where no command waits. -/
theorem State.nextWaiting_eq_none (s : State) : s.nextWaiting = none ↔ ∀ p, (s.port p).command = none := by
  unfold State.nextWaiting
  rw [List.findSome?_eq_none_iff]
  refine ⟨fun h p => ?_, fun h p _ => by simp [h p]⟩
  simpa using h p (mem_roundFrom _ p)

/-- The round begins at distance 0 and rises by one from port to port (R151). -/
theorem roundFrom_distance (pointer : Port) : (roundFrom pointer).map (roundDistance pointer) = [0, 1, 2, 3] := by
  cases pointer <;> decide

theorem roundDistance_injective {pointer p q : Port} (h : roundDistance pointer p = roundDistance pointer q) : p = q := by
  cases pointer <;> cases p <;> cases q <;> first | rfl | exact absurd h (by decide)

/-! ### The response -/

/-- A command refused leaves its port's slots and flags and the pointer changed, and nothing else (R152). -/
theorem answer_refuse (s : State) (p : Port) (c : Command) (st : Status) :
    answer p c (s.takeFrom p, .refuse st) = s.refused p c st := by
  simp [answer, State.refused, State.answered, State.takeFrom, State.writeResponse, State.setPort, PortState.write,
    Reply.refuse, State.port]

/-- An effect `u` of a command, computed with the command taken, and the response to it (R151). -/
theorem answer_onto (s u : State) (p : Port) (c : Command) (out : Reply) (h : u = u.onto s) :
    answer p c (u.onto (s.takeFrom p), out) = u.answered p c out.status out.payload := by
  have hp : u.ports = (u.onto s).ports := congrArg State.ports h
  rw [h]
  simp [answer, State.answered, State.takeFrom, State.writeResponse, State.setPort, PortState.write, State.onto,
    State.port]

/-! ### The checks (R152) -/

section Checks
variable {α : Type} {decode : List Byte → Option α} {gate : Gate} {sup : Bool} {own : Port → α → State → State × Reply}
  {s : State} {p : Port} {c : Command} {opcode : Byte} {payload : List Byte} {a : α}

/-- The executor's step either finds no waiting command of the opcode, and does nothing, or carries the command out. -/
theorem State.execute_cases (opcode : Byte) (decode : List Byte → Option α) (gate : Gate) (sup : Bool)
    (own : Port → α → State → State × Reply) (s : State) :
    s.execute opcode decode gate sup own = s ∨
      ∃ p c, Takes s p c ∧ c.opcode = opcode ∧
        s.execute opcode decode gate sup own =
          answer p c (State.carryOut decode gate sup own (s.takeFrom p) p c.payload) := by
  unfold State.execute
  split
  · exact .inl rfl
  · next p c h =>
    split
    · next ho => exact .inr ⟨p, c, h, ho, rfl⟩
    · exact .inl rfl

theorem State.execute_of_takes (h : Takes s p c) (ho : c.opcode = opcode) :
    s.execute opcode decode gate sup own =
      answer p c (State.carryOut decode gate sup own (s.takeFrom p) p c.payload) := by
  unfold State.execute
  simp [show s.nextWaiting = some (p, c) from h, ho]

/-- Check 2. -/
theorem State.carryOut_badOperand (hd : decode payload = none) :
    State.carryOut decode gate sup own s p payload = (s, .refuse .badOperand) := by
  simp [State.carryOut, hd]

/-- Check 3, for a command that needs an OPEN session. -/
theorem State.carryOut_noSession (hd : decode payload = some a) (hs : (s.session p).state = .closed) :
    State.carryOut decode .openOnly sup own s p payload = (s, .refuse .noSession) := by
  simp [State.carryOut, hd, hs, sessionCheck]

theorem State.carryOut_lapsed (hd : decode payload = some a) (hs : (s.session p).state = .lapsed) :
    State.carryOut decode .openOnly sup own s p payload = (s, .refuse .lapsed) := by
  simp [State.carryOut, hd, hs, sessionCheck]

/-- Check 4. -/
theorem State.carryOut_notSupervisor (hd : decode payload = some a) (hs : (s.session p).state = .opened)
    (hn : (s.session p).supervisor = false) :
    State.carryOut decode gate true own s p payload = (s, .refuse .notSupervisor) := by
  cases gate <;> simp [State.carryOut, hd, hs, sessionCheck, hn]

/-- Check 5: the owning block. -/
theorem State.carryOut_own (hd : decode payload = some a) (hs : gate = .always ∨ (s.session p).state = .opened)
    (hn : sup = false ∨ (s.session p).supervisor = true) :
    State.carryOut decode gate sup own s p payload = own p a s := by
  rcases hs with rfl | hs <;> rcases hn with rfl | hn
  · simp [State.carryOut, hd, sessionCheck]
  · simp [State.carryOut, hd, sessionCheck, hn]
  · cases gate <;> simp [State.carryOut, hd, sessionCheck, hs]
  · cases gate <;> simp [State.carryOut, hd, sessionCheck, hs, hn]

/-- The checks either refuse the command, leaving the state as it is, or hand it to the owning block. -/
theorem State.carryOut_cases (decode : List Byte → Option α) (gate : Gate) (sup : Bool)
    (own : Port → α → State → State × Reply) (s : State) (p : Port) (payload : List Byte) :
    (∃ st, st ≠ .ok ∧ State.carryOut decode gate sup own s p payload = (s, .refuse st)) ∨
      ∃ a, decode payload = some a ∧ sessionCheck gate (s.session p).state = none ∧
        (sup = true → (s.session p).supervisor = true) ∧
        State.carryOut decode gate sup own s p payload = own p a s := by
  unfold State.carryOut
  cases hd : decode payload with
  | none => exact .inl ⟨.badOperand, by decide, rfl⟩
  | some a =>
    simp only
    cases hc : sessionCheck gate (s.session p).state with
    | some st =>
      refine .inl ⟨st, ?_, rfl⟩
      rintro rfl
      revert hc
      cases gate <;> cases (s.session p).state <;> simp [sessionCheck]
    | none =>
      simp only
      cases sup with
      | false => exact .inr ⟨a, by simp⟩
      | true =>
        cases hn : (s.session p).supervisor with
        | false => exact .inl ⟨.notSupervisor, by decide, by simp⟩
        | true => exact .inr ⟨a, by simp⟩

/-- A refusal by any check, read on the state before. -/
theorem State.execute_refused {st : Status} (h : Takes s p c) (ho : c.opcode = opcode)
    (hr : State.carryOut decode gate sup own (s.takeFrom p) p c.payload = (s.takeFrom p, .refuse st)) :
    s.execute opcode decode gate sup own = .refused s p c st := by
  rw [State.execute_of_takes h ho, hr, answer_refuse]

/-- A command carried out by its owning block, read on the state before: `u` is the block's effect on that. -/
theorem State.execute_own {u : State} {out : Reply} (h : Takes s p c) (ho : c.opcode = opcode)
    (hd : decode c.payload = some a) (hs : gate = .always ∨ (s.session p).state = .opened)
    (hn : sup = false ∨ (s.session p).supervisor = true)
    (he : own p a (s.onto (s.takeFrom p)) = (u.onto (s.takeFrom p), out)) (hu : u = u.onto s) :
    s.execute opcode decode gate sup own = u.answered p c out.status out.payload := by
  have hco : State.carryOut decode gate sup own (s.takeFrom p) p c.payload = own p a (s.takeFrom p) :=
    State.carryOut_own (s := s.takeFrom p) hd hs hn
  rw [State.execute_of_takes h ho, hco]
  exact (congrArg (answer p c) he).trans (answer_onto s u p c out hu)

end Checks

end Sys2Proof.Machine
end

