-- ==== Sys2Proof/Laws/Loop.lean ====
section
/-! SUPPORT. The channel loop's operations on a record: what each keeps, what the guard decides, and, for each loop state,
what a measurement can do. -/

namespace Sys2Proof.Machine

/-! ### What every event keeps -/

@[simp] theorem ChannelRecord.toIdle_config (r : ChannelRecord) : r.toIdle.config = r.config := rfl

@[simp] theorem ChannelRecord.toTrack_config (r : ChannelRecord) : r.toTrack.config = r.config := rfl

theorem ChannelRecord.grant_keeps (r : ChannelRecord) (h : Handle) (amount : Nat) :
    (r.grant h amount).config = r.config ∧ (r.grant h amount).hold = r.hold ∧
      (r.grant h amount).measured = r.measured ∧ (r.grant h amount).tripOwner = r.tripOwner ∧
      (r.grant h amount).tripValue = r.tripValue := by
  unfold ChannelRecord.grant ChannelRecord.freshSettle
  cases r.hold <;> simp

theorem ChannelRecord.release_keeps (r : ChannelRecord) (amount : Nat) :
    (r.release amount).config = r.config ∧ (r.release amount).hold = r.hold ∧
      (r.release amount).measured = r.measured ∧ (r.release amount).tripOwner = r.tripOwner ∧
      (r.release amount).tripValue = r.tripValue := by
  unfold ChannelRecord.release
  cases r.state <;> first
    | exact ⟨rfl, rfl, rfl, rfl, rfl⟩
    | (simp only; split <;> exact ⟨rfl, rfl, rfl, rfl, rfl⟩)

theorem ChannelRecord.whenHeld_keeps (r : ChannelRecord) :
    r.whenHeld.config = r.config ∧ r.whenHeld.hold = true ∧ r.whenHeld.measured = r.measured ∧
      r.whenHeld.tripOwner = r.tripOwner ∧ r.whenHeld.tripValue = r.tripValue := by
  unfold ChannelRecord.whenHeld
  cases r.state <;> exact ⟨rfl, rfl, rfl, rfl, rfl⟩

theorem ChannelRecord.whenResumed_keeps (r : ChannelRecord) :
    r.whenResumed.config = r.config ∧ r.whenResumed.hold = false ∧ r.whenResumed.measured = r.measured ∧
      r.whenResumed.tripOwner = r.tripOwner ∧ r.whenResumed.tripValue = r.tripValue := by
  unfold ChannelRecord.whenResumed
  cases r.state <;> exact ⟨rfl, rfl, rfl, rfl, rfl⟩

/-! ### The guard (R78, R79) -/

/-- A measurement that does not trip the channel: the last measured value, the strike count, and the state's step. -/
theorem ChannelRecord.measure_of_noTrip (r : ChannelRecord) (m : Nat) (owner : Option Port)
    (hg : r.state.guarded = true) (h : NoTrip r m) :
    r.measure m owner = ({ r with measured := m, strikes := strikesNow r m } : ChannelRecord).stateStep m := by
  have hs : ¬ 3 ≤ r.strikesAfter m := by
    unfold ChannelRecord.strikesAfter
    rcases h with h | h <;> split <;> omega
  simp only [ChannelRecord.measure, hg, if_true, hs, if_false]
  rfl

/-- The third strike in a row trips the channel. -/
theorem ChannelRecord.measure_of_trip (r : ChannelRecord) (m : Nat) (owner : Option Port)
    (hg : r.state.guarded = true) (hm : r.target + r.config.guard < m) (hs : 2 ≤ r.strikes) :
    r.measure m owner = (({ r with measured := m } : ChannelRecord).trip m owner, .tripped) := by
  have h : 3 ≤ r.strikesAfter m := by
    unfold ChannelRecord.strikesAfter
    rw [if_pos hm]; omega
  simp only [ChannelRecord.measure, hg, if_true, h]

/-- In IDLE, HELD and TRIPPED a measurement is recorded and does nothing more (R53, R80). -/
theorem ChannelRecord.measure_of_not_guarded (r : ChannelRecord) (m : Nat) (owner : Option Port)
    (hg : r.state.guarded = false) : r.measure m owner = ({ r with measured := m }, .none) := by
  simp [ChannelRecord.measure, hg]

/-- A measurement changes neither the configuration nor the hold attribute. -/
theorem ChannelRecord.measure_keeps (r : ChannelRecord) (m : Nat) (owner : Option Port) :
    (r.measure m owner).1.config = r.config ∧ (r.measure m owner).1.hold = r.hold := by
  have halve : ∀ x : ChannelRecord, x.halve.config = x.config ∧ x.halve.hold = x.hold := by
    intro x; unfold ChannelRecord.halve; split <;> exact ⟨rfl, rfl⟩
  have adapt : ∀ (x : ChannelRecord) d, (x.adapt d).config = x.config ∧ (x.adapt d).hold = x.hold := by
    intro x d; unfold ChannelRecord.adapt
    split
    · exact ⟨rfl, rfl⟩
    · split
      · split <;> exact ⟨rfl, rfl⟩
      · exact ⟨rfl, rfl⟩
  have vote : ∀ (x : ChannelRecord) d, (x.vote d).1.config = x.config ∧ (x.vote d).1.hold = x.hold := by
    intro x d; unfold ChannelRecord.vote
    split
    · unfold ChannelRecord.adjust
      cases d
      · exact ⟨rfl, rfl⟩
      · simp only; split
        · exact ⟨rfl, rfl⟩
        · exact adapt _ _
      · exact adapt _ _
    · exact ⟨rfl, rfl⟩
  have step : ∀ x : ChannelRecord, (x.stateStep m).1.config = x.config ∧ (x.stateStep m).1.hold = x.hold := by
    intro x; unfold ChannelRecord.stateStep
    cases x.state
    case ramp =>
      simp only [ChannelRecord.rampStep]; split
      · exact halve _
      · split <;> exact ⟨rfl, rfl⟩
    case bisect => simp only [ChannelRecord.bisectStep]; split <;> exact halve _
    case track =>
      simp only [ChannelRecord.trackStep]
      split
      · exact vote _ _
      · split
        · exact vote _ _
        · split <;> exact ⟨rfl, rfl⟩
    case limited => simp only [ChannelRecord.limitedStep]; split <;> exact ⟨rfl, rfl⟩
    case releasing => simp only [ChannelRecord.windDownStep]; split <;> exact ⟨rfl, rfl⟩
    all_goals exact ⟨rfl, rfl⟩
  unfold ChannelRecord.measure
  simp only
  split
  · split
    · exact ⟨rfl, rfl⟩
    · exact step _
  · exact ⟨rfl, rfl⟩

/-! ### L and the run (R59) -/

/-- An adjustment's effect on L, the run and the last adjustment, by the table of R59. -/
theorem ChannelRecord.adapt_eq (r : ChannelRecord) (d : Direction) :
    r.adapt d = { r with confirm := (adapted r d).1, run := (adapted r d).2, lastAdjust := d } := by
  unfold ChannelRecord.adapt adapted
  split
  · rfl
  · split
    · split <;> rfl
    · rfl

/-- L stays one of its five values, and the run below 4. -/
theorem adapted_range (r : ChannelRecord) (d : Direction) (hc : r.confirm ∈ [2, 4, 8, 16, 32]) (hr : r.run ≤ 3) :
    (adapted r d).1 ∈ [2, 4, 8, 16, 32] ∧ (adapted r d).2 ≤ 3 := by
  simp only [List.mem_cons, List.not_mem_nil, or_false] at hc ⊢
  unfold adapted
  split
  · exact ⟨hc, by simp⟩
  · split
    · split
      · exact ⟨hc, by simp only; omega⟩
      · rcases hc with h | h | h | h | h <;> simp [h]
    · rcases hc with h | h | h | h | h <;> simp [h]

end Sys2Proof.Machine
end

