-- ==== Sys2Proof/Laws/Scan.lean ====
section
/-! SUPPORT. The measurement action, TRIPPED reports and SET PINS' input events: what each can change, once. -/

namespace Sys2Proof.Machine

/-- IDLE REACHED and the pass after it, or a record freed and told and the pass after it (R37, R38). -/
theorem State.reportTrip_frame (s : State) (b : ChannelRecord) (c : Channel) (m : Nat) :
    s.reportTrip b c m =
      { s with
        slots := (s.reportTrip b c m).slots
        counts := (s.reportTrip b c m).counts
        channels := (s.reportTrip b c m).channels
        releases := (s.reportTrip b c m).releases
        notices := (s.reportTrip b c m).notices
        budget := { s.budget with granted := (s.reportTrip b c m).budget.granted
                                  releasing := (s.reportTrip b c m).budget.releasing } } := by
  unfold State.reportTrip
  split
  · unfold State.tripReportUnowned; rw [State.allocationPass_frame]; rfl
  · split
    · unfold State.tripReport
      split
      · rw [State.allocationPass_frame]
      · simp only
        rw [State.allocationPass_frame, State.notify_eq]
        split <;> rfl
    · rw [State.allocationPass_frame]

/-- A trip's two consequences together, in either order (R81, R112). -/
theorem State.afterTrip_frame (s : State) (b : ChannelRecord) (c : Channel) (m : Nat) :
    s.afterTrip b c m =
      { s with
        slots := (s.afterTrip b c m).slots
        counts := (s.afterTrip b c m).counts
        channels := (s.afterTrip b c m).channels
        releases := (s.afterTrip b c m).releases
        notices := (s.afterTrip b c m).notices
        choice := (s.afterTrip b c m).choice
        trip := { s.trip with inputs := (s.afterTrip b c m).trip.inputs
                              groups := (s.afterTrip b c m).trip.groups
                              fault := (s.afterTrip b c m).trip.fault }
        budget := { s.budget with granted := (s.afterTrip b c m).budget.granted
                                  releasing := (s.afterTrip b c m).budget.releasing } } := by
  unfold State.afterTrip
  split
  · simp only
    split
    · rw [State.reportTrip_frame, State.followTripany_frame]
    · rw [State.followTripany_frame, State.reportTrip_frame]
  · rw [State.followTripany_frame, State.reportTrip_frame]

/-- A measurement action changes, besides its own channel, what its reports and notices change, and nothing else (R28,
R53). -/
theorem State.measurement_frame (s : State) (c : Channel) (m : Nat) :
    s.measurement c m =
      { s with
        slots := (s.measurement c m).slots
        counts := (s.measurement c m).counts
        channels := (s.measurement c m).channels
        releases := (s.measurement c m).releases
        notices := (s.measurement c m).notices
        choice := (s.measurement c m).choice
        trip := { s.trip with inputs := (s.measurement c m).trip.inputs
                              groups := (s.measurement c m).trip.groups
                              fault := (s.measurement c m).trip.fault }
        budget := { s.budget with granted := (s.measurement c m).budget.granted
                                  releasing := (s.measurement c m).budget.releasing } } := by
  unfold State.measurement
  simp only
  split
  · rfl
  · rw [State.notifyHolder_eq]; rfl
  · rw [State.notifyHolder_eq]; rfl
  · rw [State.allocationPass_frame]; rfl
  · rw [State.afterTrip_frame]; rfl

/-- An input event within SET PINS runs no pass, so the slots and the granted sum stay as they are (R103). -/
theorem State.inputEventNoPass_frame (s : State) (i : TripInput) (v : Bool) :
    s.inputEventNoPass i v =
      { s with
        trip := { s.trip with inputs := setInput s.trip.inputs i v
                              groups := (s.recordInput i v).settledGroups
                              fault := someGroupHolds (s.recordInput i v).settledGroups }
        channels := (s.inputEventNoPass i v).channels
        releases := (s.inputEventNoPass i v).releases
        notices := (s.inputEventNoPass i v).notices
        budget := { s.budget with releasing := (s.inputEventNoPass i v).budget.releasing } } :=
  State.putGroups_frame (s.recordInput i v) (s.recordInput i v).settledGroups

theorem State.input_inputEventNoPass (s : State) (i j : TripInput) (v : Bool) :
    (s.inputEventNoPass i v).input j = if j = i then v else s.input j := by
  rw [← State.input_recordInput]
  unfold State.input
  rw [State.inputEventNoPass_frame]
  rfl

/-- The order in which SET PINS takes the changed pins holds each of them once, whatever the free key (R103). -/
theorem pinOrder_perm (k : Nat) (l : List FltPin) : (pinOrder k l).Perm l := by
  have insert : ∀ (i : FltPin) (l : List FltPin), (insertPin k i l).Perm (i :: l) := by
    intro i l
    induction l with
    | nil => exact List.Perm.refl _
    | cons j rest ih =>
      unfold insertPin
      split
      · exact List.Perm.refl _
      · exact (ih.cons j).trans (List.Perm.swap i j rest)
  induction l with
  | nil => exact List.Perm.refl _
  | cons i rest ih => exact (insert i _).trans (ih.cons i)

theorem State.takePins_frame (s : State) (l : List FltPin) :
    s.takePins l =
      { s with
        trip := { s.trip with inputs := (s.takePins l).trip.inputs
                              groups := (s.takePins l).trip.groups
                              fault := (s.takePins l).trip.fault }
        channels := (s.takePins l).channels
        releases := (s.takePins l).releases
        notices := (s.takePins l).notices
        budget := { s.budget with releasing := (s.takePins l).budget.releasing } } := by
  induction l generalizing s with
  | nil => rfl
  | cons i rest ih =>
    unfold State.takePins
    rw [ih, State.inputEventNoPass_frame]

end Sys2Proof.Machine
end

