-- ==== Sys2Proof/Laws/Wire.lean ====
section
/-! SUPPORT. The bytes of the wire: the CRC-8 of R145, frames, multi-byte fields, and the range checks of R155. -/

namespace Sys2Proof.Machine

/-! ### CRC-8 -/

@[simp] theorem crc8_nil : crc8 [] = 0xFF#8 := rfl

/-- The running value takes in one byte after another (R145). -/
theorem crc8_concat (bytes : List Byte) (b : Byte) : crc8 (bytes ++ [b]) = crcByte (crc8 bytes) b := by
  simp [crc8]

@[simp] theorem crcShift_zero : crcShift 0#8 = 0#8 := by decide

/-- A byte equal to the running value brings it to 0, which is why a whole good frame gives 0 (R145). -/
theorem crcByte_self (v : Byte) : crcByte v v = 0#8 := by
  simp [crcByte]

/-! ### Frames -/

/-- The bytes of a command's frame. -/
theorem Command.frame_eq (c : Command) :
    c.frame = c.opcode :: c.tag :: BitVec.ofNat 8 c.payload.length ::
      (c.payload ++ [crc8 (c.opcode :: c.tag :: BitVec.ofNat 8 c.payload.length :: c.payload)]) := rfl

@[simp] theorem Command.frame_length (c : Command) : c.frame.length = c.payload.length + 4 := by
  simp [Command.frame_eq]

@[simp] theorem Response.frame_length (r : Response) : r.frame.length = r.payload.length + 5 := by
  simp [Response.frame, byte1]

/-- A run of fewer than four bytes after the transaction code is a bad frame: its CRC byte is missing (R144). -/
theorem judgeFrame_of_short {frame : List Byte} (h : frame.length < 4) : judgeFrame frame = none := by
  unfold judgeFrame
  split
  · next o t n rest =>
    simp only [List.length_cons] at h
    have : ¬ rest.length = n.toNat + 1 := by omega
    simp [this]
  · rfl

/-- What a good frame holds (R144). -/
theorem judgeFrame_eq_some {frame : List Byte} {c : Command} (h : judgeFrame frame = some c) :
    ∃ o t n rest, frame = o :: t :: n :: rest ∧ n.toNat ≤ 12 ∧ rest.length = n.toNat + 1 ∧
      rest.getLast? = some (crc8 (o :: t :: n :: rest.take n.toNat)) ∧ c = ⟨o, t, rest.take n.toNat⟩ := by
  unfold judgeFrame at h
  split at h
  · next o t n rest =>
    split at h
    · next hc => exact ⟨o, t, n, rest, rfl, hc.1, hc.2.1, hc.2.2, (Option.some.inj h).symm⟩
    · cases h
  · cases h

/-- The port judges a frame good, and takes its command, exactly where none of the four cases of R144 holds. -/
theorem judgeFrame_eq (frame : List Byte) :
    judgeFrame frame = if goodFrame frame then some (frameCommand frame) else none := by
  match frame with
  | [] => rfl
  | [_] => simp [judgeFrame, goodFrame, frameLength]
  | [_, _] => simp [judgeFrame, goodFrame, frameLength]
  | o :: t :: n :: rest =>
    have hl : frameLength (o :: t :: n :: rest) = n.toNat := rfl
    have htake : (o :: t :: n :: rest).take (n.toNat + 3) = o :: t :: n :: rest.take n.toNat := rfl
    have hget : (o :: t :: n :: rest)[n.toNat + 3]? = rest[n.toNat]? := rfl
    have hlen : (o :: t :: n :: rest).length = rest.length + 3 := rfl
    have hlast : rest.length = n.toNat + 1 → rest.getLast? = rest[n.toNat]? := by
      intro h; rw [List.getLast?_eq_getElem?, h]; rfl
    simp only [judgeFrame, goodFrame, frameCommand, hl, htake, hget, hlen, decide_eq_true_eq]
    by_cases h : rest.length = n.toNat + 1
    · simp [h, hlast h]
    · simp [h]

/-! ### Codes: the part's tables are those of the spec -/

@[simp] theorem Status.code_eq (st : Status) : st.code = statusNumber st := by cases st <;> rfl

@[simp] theorem Kind.code_eq (k : Kind) : k.code = kindNumber k := by cases k <;> rfl

@[simp] theorem LoopState.code_eq (x : LoopState) : x.code = loopNumber x := by cases x <;> rfl

@[simp] theorem Direction.code_eq (d : Direction) : d.code = directionNumber d := by cases d <;> rfl

@[simp] theorem GroupState.code_eq (x : GroupState) : x.code = groupNumber x := by cases x <;> rfl

@[simp] theorem SessionState.code_eq (x : SessionState) : x.code = sessionNumber x := by cases x <;> rfl

@[simp] theorem ResetCause.code_eq (x : ResetCause) : x.code = causeNumber x := by cases x <;> rfl

@[simp] theorem portCode_eq (p : Port) : portCode p = portNumber p := by cases p <;> rfl

@[simp] theorem bit_eq (b : Bool) : bit b = flagNumber b := rfl

theorem byte1_eq_field (n : Nat) : byte1 n = field 1 n := by simp [byte1, field]

theorem byte2_eq_field (n : Nat) : byte2 n = field 2 n := by simp [byte2, field]

theorem byte4_eq_field (n : Nat) : byte4 n = field 4 n := by
  have h : n / 65536 / 256 = n / 16777216 := Nat.div_div_eq_div_mul ..
  have k : BitVec.ofNat 8 (n / 256) = BitVec.ofNat 8 (n / 256) := rfl
  simp [byte4, byte2, field, h]

/-! ### Fields -/

theorem within_eq_some {lo hi n m : Nat} : within lo hi n = some m ↔ lo ≤ n ∧ n ≤ hi ∧ n = m := by
  unfold within
  split <;> simp_all

theorem be16_lt (a b : Byte) : be16 a b < 65536 := by
  have := a.isLt; have := b.isLt; unfold be16; omega

/-- Two bytes are the bytes of the number they spell, most significant first (R155). -/
theorem byte2_be16 (a b : Byte) : byte2 (be16 a b) = [a, b] := by
  have ha := a.isLt; have hb := b.isLt
  simp only [byte2, be16, List.cons.injEq, and_true]
  constructor <;> apply BitVec.eq_of_toNat_eq <;> simp only [BitVec.toNat_ofNat] <;> omega

/-- A number below 65536 is spelled by its two bytes. -/
theorem be16_byte2 {n : Nat} (h : n < 65536) : be16 (BitVec.ofNat 8 (n / 256)) (BitVec.ofNat 8 n) = n := by
  simp only [be16, BitVec.toNat_ofNat]; omega

theorem byte1_toNat (b : Byte) : byte1 b.toNat = [b] := by simp [byte1]

@[simp] theorem byte1_length (n : Nat) : (byte1 n).length = 1 := rfl

@[simp] theorem byte2_length (n : Nat) : (byte2 n).length = 2 := rfl

@[simp] theorem byte4_length (n : Nat) : (byte4 n).length = 4 := rfl

theorem channelField_eq_some {b : Byte} {c : Channel} : channelField b = some c ↔ [b] = byte1 c.val := by
  unfold channelField byte1
  have hb := b.isLt; have hc := c.isLt
  rw [List.cons.injEq]
  simp only [and_true]
  refine ⟨fun h => ?_, fun h => ?_⟩
  · split at h
    · cases h; simp
    · cases h
  · subst h
    have h : c.val % 256 = c.val := by omega
    simp [h]

theorem portField_eq_some {b : Byte} {p : Port} : portField b = some p ↔ [b] = byte1 (portCode p) := by
  have key : ∀ b : Byte, ∀ p : Port, portField b = some p ↔ [b] = byte1 (portCode p) := by
    intro b p
    cases p <;> revert b <;> decide +kernel
  exact key b p

theorem flagField_eq_some {b : Byte} {v : Bool} : flagField b = some v ↔ [b] = byte1 (bit v) := by
  have key : ∀ b : Byte, ∀ v : Bool, flagField b = some v ↔ [b] = byte1 (bit v) := by decide +kernel
  exact key b v

/-- A handle's code is spelled by its generation and its slot (R2). -/
theorem byte2_handle_code (h : Handle) : byte2 h.code = handleBytes h := by
  have hg := h.gen.isLt; have hs := h.slot.isLt
  simp only [byte2, Handle.code, handleBytes, List.cons.injEq, and_true]
  constructor <;> apply BitVec.eq_of_toNat_eq <;> simp only [BitVec.toNat_ofNat] <;> omega

theorem optional2_handle (h : Option Handle) : optional2 (h.map Handle.code) = handleBytesOr h := by
  cases h with
  | none => rfl
  | some h => exact byte2_handle_code h

/-! ### What a port shifts out -/

@[simp] theorem thenZeros_nil (n : Nat) : thenZeros [] n = List.replicate n 0x00#8 := by simp [thenZeros]

@[simp] theorem thenZeros_zero (given : List Byte) : thenZeros given 0 = [] := by simp [thenZeros]

/-- The first byte shifted out is the first of those given, and 0x00 where there is none. -/
theorem thenZeros_succ (given : List Byte) (n : Nat) :
    thenZeros given (n + 1) = given.head?.getD 0x00#8 :: thenZeros (given.drop 1) n := by
  cases given with
  | nil => simp [List.replicate_succ]
  | cons b rest => simp [thenZeros, List.replicate_succ', ← List.append_assoc, List.take_append_of_le_length]

/-! ### The port's operations -/

@[simp] theorem port_withPort (s : State) (p : Port) (y : PortState) : (withPort s p y).port p = y := by
  simp [withPort, State.port]

@[simp] theorem withPort_withPort (s : State) (p : Port) (y z : PortState) :
    withPort (withPort s p y) p z = withPort s p z := by simp [withPort]

@[simp] theorem withPort_self (s : State) (p : Port) : withPort s p (s.port p) = s := by simp [withPort, State.port]

theorem State.setPort_eq (s : State) (p : Port) (y : PortState) : s.setPort p y = withPort s p y := rfl

/-- Where no transaction is in progress, the assertion of the select line begins one with the status byte of now. -/
theorem State.select_of_none {s : State} {p : Port} (h : (s.port p).transaction = none) :
    s.select p = withPort s p { s.port p with transaction := some ⟨s.statusByte p, [], []⟩, dataOut := [] } := by
  simp [State.select, h, withPort, State.setPort]

/-- A byte of a transaction in progress that is not the code byte of a fetch joins it. -/
theorem State.clockByte_eq {s : State} {p : Port} {x : Transaction} (h : (s.port p).transaction = some x) (b : Byte)
    (hb : ¬ (x.received = [] ∧ b = 0xF0#8)) :
    s.clockByte p b = withPort s p ((s.port p).clocked x (s.byteOut p x) b) := by
  simp only [State.clockByte, h, if_neg hb, withPort, State.setPort]

/-- The code byte of a fetch takes it (R147). -/
theorem State.clockByte_fetch {s : State} {p : Port} {x : Transaction} (h : (s.port p).transaction = some x)
    (hx : x.received = []) :
    s.clockByte p 0xF0#8 =
      withPort s p (((s.port p).clocked x x.shown 0xF0#8).fetched (x.clocked 0xF0#8)) := by
  have : s.byteOut p x = x.shown := by simp [State.byteOut, hx]
  simp only [State.clockByte, h, hx, true_and, if_true, withPort, State.setPort, this]

/-- A transaction in progress ends: it is gone, and what it carried is taken. -/
theorem State.deselect_of_some {s : State} {p : Port} {x : Transaction} (h : (s.port p).transaction = some x) :
    s.deselect p = (withPort s p { s.port p with transaction := none }).takeReceived p x.received := by
  simp [State.deselect, h, withPort, State.setPort]

@[simp] theorem State.clockBytes_nil (s : State) (p : Port) : s.clockBytes p [] = s := rfl

@[simp] theorem State.clockBytes_cons (s : State) (p : Port) (b : Byte) (rest : List Byte) :
    s.clockBytes p (b :: rest) = (s.clockByte p b).clockBytes p rest := rfl

/-- Bytes taken in two runs are taken in one. -/
theorem State.clockBytes_append (s : State) (p : Port) (a b : List Byte) :
    s.clockBytes p (a ++ b) = (s.clockBytes p a).clockBytes p b := by
  simp [State.clockBytes, List.foldl_append]

/-- What becomes of a command frame (R144, R146, R150). -/
theorem State.receiveFrame_eq (s : State) (p : Port) (frame : List Byte) :
    s.receiveFrame p frame = withPort s p ((s.port p).afterFrame frame) := by
  unfold State.receiveFrame PortState.afterFrame
  rw [judgeFrame_eq]
  cases goodFrame frame with
  | false => rfl
  | true => exact congrArg (withPort s p) (by unfold PortState.receive; rfl)

/-- A fetch takes the response and the flags that its status byte showed, and has the frame to shift out (R147). -/
theorem PortState.fetched_eq (y : PortState) (x : Transaction) :
    y.fetched x = { y.afterFetch x.shown with transaction := some { x with reply := y.fetchFrame } } := by
  unfold PortState.fetched PortState.afterFetch PortState.fetchFrame
  cases h : y.response with
  | none => cases y; cases h; rfl
  | some r => rfl

theorem State.takesTransactions_of_listens {s : State} {p : Port} (h : Listens s p) : s.takesTransactions p = true := by
  simp [State.takesTransactions, h.released, h.listening]

/-- A stretch at a port that takes no transactions has no effect (R141). -/
theorem State.stretch_of_not_takes {s : State} {p : Port} (h : s.takesTransactions p = false) (code : Byte)
    (part : Stretch) (bytes : List Byte) : s.stretch p code part bytes = s := by
  simp [State.stretch, h]

/-- A byte of a transaction changes its port alone. -/
theorem State.clockByte_frame (s : State) (p : Port) (b : Byte) :
    s.clockByte p b = withPort s p ((s.clockByte p b).port p) := by
  unfold State.clockByte
  cases (s.port p).transaction with
  | none => exact (withPort_self s p).symm
  | some x => simp only [State.setPort_eq, port_withPort]

/-- The bytes of a transaction change its port alone. -/
theorem State.clockBytes_frame (s : State) (p : Port) (bytes : List Byte) :
    s.clockBytes p bytes = withPort s p ((s.clockBytes p bytes).port p) := by
  induction bytes generalizing s with
  | nil => exact (withPort_self s p).symm
  | cons b rest ih =>
    rw [State.clockBytes_cons]
    conv_lhs => rw [ih (s.clockByte p b), State.clockByte_frame s p b, withPort_withPort]
    rw [← State.clockByte_frame]

end Sys2Proof.Machine
end

