-- ==== Sys2Proof/Tests/Slice0.lean ====
section
/-! SUPPORT. Tests: the smoke test of well-formedness, a few bytes of the wire, one or two small steps for each command
with results taken from the spec, and, for each statement with hypotheses, a state and operands that meet them. -/

namespace Sys2Proof.Tests

open Sys2Proof Sys2Proof.Machine

set_option Elab.async false

/-! ### Well-formedness -/

theorem test_wellFormed_command :
    (Instr.commandTransaction .A .whole [0xC5, 0x12, 0x34, 0x00, 0xF2]).wellFormed = true := by decide +kernel

/-- A stretch within a transaction. -/
theorem test_wellFormed_status : (Instr.statusTransaction .A .inner [0xF0]).wellFormed = true := by decide +kernel

/-- Another row's code. -/
theorem test_illFormed_command_code : (Instr.commandTransaction .A .whole [0xF0]).wellFormed = false := by
  decide +kernel

theorem test_illFormed_fetch_code : (Instr.fetch .A .first [0x3C]).wellFormed = false := by decide +kernel

theorem test_illFormed_status_code : (Instr.statusTransaction .A .whole [0xA9]).wellFormed = false := by
  decide +kernel

theorem test_illFormed_portReset_code : (Instr.portReset .A .whole [0xC5, 0x96]).wellFormed = false := by
  decide +kernel

/-- An empty stretch. -/
theorem test_illFormed_command_empty : (Instr.commandTransaction .A .inner []).wellFormed = false := by
  decide +kernel

theorem test_illFormed_fetch_empty : (Instr.fetch .A .inner []).wellFormed = false := by decide +kernel

theorem test_illFormed_status_empty : (Instr.statusTransaction .A .inner []).wellFormed = false := by
  decide +kernel

theorem test_illFormed_portReset_empty : (Instr.portReset .A .inner []).wellFormed = false := by decide +kernel

/-! ### Bytes of the wire -/

/-- R145's example. -/
theorem test_crc_example : crc8 [0x12] = 0x8D ∧ crc8 [0x12, 0x34] = 0x26 ∧ crc8 [0x12, 0x34, 0x00] = 0xF2 := by decide +kernel

/-- R145's frame. -/
theorem test_frame_example : judgeFrame [0x12, 0x34, 0x00, 0xF2] = some ⟨0x12, 0x34, []⟩ := by decide +kernel

/-- R144, case 3. -/
theorem test_frame_too_long : judgeFrame [0x12, 0x34, 0x00, 0xF2, 0x00] = none := by decide +kernel

/-- 00_scope: slot 5 at generation 3 is 0x0305. -/
theorem test_handle_code : Handle.code ⟨3, 5⟩ = 0x0305 ∧ handleOperand [0x03, 0x05] = some ⟨3, 5⟩ := by decide +kernel

/-- R168: FLT1 and SOFT B, CH8 and CH9. -/
theorem test_group_masks : groupOperands [0x01, 0x00, 0x82, 0x03, 0x00, 0x01] = some ⟨1, 130#10, 768#12, .latch⟩ := by
  decide +kernel

/-- R155: a slot above 23. -/
theorem test_handle_slot_refused : handleOperand [0x00, 0x18] = none := by decide +kernel

/-- R167: an averaging value of 3. -/
theorem test_averaging_refused : loopOperands [0, 1, 1, 0, 0, 64, 0, 128, 2, 3] = none := by decide +kernel

/-! ### Small states -/

/-- An OPEN session with a lease of 100 ticks. -/
def openSession : Session := { Session.reset with state := .opened, current := some 100, remaining := 100 }

/-- A port that listens. -/
def listening : PortState := { PortState.reset with listening := true }

/-- A part after release: port A is the supervisor, every session is OPEN, every port listens, and the budget is 400. -/
def live : State :=
  { State.reset with
    resetHeld := false
    sessions := ⟨{ openSession with supervisor := true, floor := 0 }, openSession, openSession, openSession⟩
    ports := PerPort.const listening
    budget := { Budget.reset with normal := 400, derated := 200, effective := 400 } }

/-- A transaction in progress at a port. -/
def amid (s : State) (p : Port) (shown : Byte) (received reply : List Byte) : State :=
  s.setPort p { s.port p with transaction := some ⟨shown, received, reply⟩ }

/-- A command waits at a port. -/
def waiting (s : State) (p : Port) (opcode : Byte) (payload : List Byte) : State :=
  s.setPort p { s.port p with command := some ⟨opcode, 7, payload⟩ }

/-- What a command's next state shows. -/
def shows {α : Type} (o : Result) (f : State → α) : Option α :=
  match o with
  | .next t => some (f t)
  | .fault _ => none
  | .refused _ => none

/-- The status and payload in a port's response slot. -/
def answerAt (p : Port) (t : State) : Option (Status × List Byte) :=
  (t.port p).response.map fun r => (r.status, r.payload)

/-- A channel record under a grant of 120 CU to slot 0. -/
def granted (st : LoopState) (drive : Nat) : ChannelRecord :=
  { ChannelRecord.reset with state := st, drive := drive, target := 120, holder := some ⟨0, 0⟩ }

/-- `live` with a claim of port B on channel 3, GRANTED, whose loop stands in a state at a drive level. -/
def claimed (st : LoopState) (drive : Nat) : State :=
  { live with
    slots := live.slots.set 0 ⟨0, some ⟨.B, 3, 120, 2, 0, .granted, 0⟩⟩
    stamp := 1
    counts := ⟨0, 1, 0, 0⟩
    budget := { live.budget with granted := 120 }
    channels := live.channels.set 3 (granted st drive) }

/-- `live` with a claim of port B on channel 3, PENDING behind a trip of that channel. -/
def pendingClaim : State :=
  { live with
    slots := live.slots.set 0 ⟨0, some ⟨.B, 3, 120, 2, 0, .pending, 0⟩⟩
    stamp := 1
    counts := ⟨0, 1, 0, 0⟩
    channels := live.channels.set 3 { ChannelRecord.reset with state := .tripped, tripOwner := some .B, tripValue := 170 }
    trip := { live.trip with inputs := 0x20#10 } }

/-- `live` with channel 3 winding down under a release amount of 120. -/
def winding (drive : Nat) : State :=
  { live with
    budget := { live.budget with releasing := 120 }
    releases := live.releases.set 3 120
    channels := live.channels.set 3 { ChannelRecord.reset with state := .releasing, drive := drive, target := 120 } }

/-! ### One or two small steps for each command -/

theorem test_powerOnReset : shows (exec .powerOnReset live) (fun t => (t.cause, t.resetHeld, t.stamp)) =
    some (.powerOn, true, 0) := by decide +kernel

theorem test_pinReset : shows (exec .pinReset live) (fun t => (t.cause, t.pointer)) = some (.pin, .D) := by decide +kernel

/-- R116: SUPV1 = 1 and SUPV0 = 0 select port C; R98: the counter is 1 after the release. -/
theorem test_resetRelease :
    shows (exec (.resetRelease true false (Vector.replicate 4 true) true) State.reset)
      (fun t => ((t.session .C).supervisor, (t.session .C).floor, (t.session .A).floor, t.scan.counter)) =
    some (true, 0, 2, 1#16) := by decide +kernel

/-- R23: the lesser of 400 and 200. -/
theorem test_derateEvent : shows (exec (.derateEvent false) live) (fun t => t.budget.effective) = some 200 := by decide +kernel

theorem test_fltPinChange : shows (exec (.fltPinChange 2 false) live) (fun t => t.input (.flt 2)) = some true := by decide +kernel

theorem test_scanCycleStart : shows (exec .scanCycleStart live) (fun t => t.scan.counter) = some 1#16 := by decide +kernel

/-- R54: from 256 by a ramp step of 64. -/
theorem test_channelConversionEnd :
    shows (exec (.channelConversionEnd 3 40) (claimed .ramp 256)) (fun t => (t.channel 3).drive) = some 320 := by decide +kernel

/-- R79: the third strike. -/
theorem test_channelConversionEnd_trip :
    shows (exec (.channelConversionEnd 3 170)
      { claimed .track 256 with channels := live.channels.set 3 { granted .track 256 with strikes := 2 } })
      (fun t => ((t.channel 3).state, (t.channel 3).tripOwner, (t.slot 0).gen, t.budget.granted)) =
    some (.tripped, some .B, 1#8, 0) := by decide +kernel

theorem test_railConversionEnd :
    shows (exec (.railConversionEnd 150) { live with scan := { live.scan with railLimit := 100 } })
      (fun t => (t.scan.railFlag, t.input .rail)) = some (true, true) := by decide +kernel

theorem test_leaseTick : shows (exec (.leaseTick .B) live) (fun t => (t.session .B).remaining) = some 99 := by decide +kernel

theorem test_leaseExpiry :
    shows (exec (.leaseExpiry .B)
      { claimed .track 256 with sessions := live.sessions.set .B { openSession with remaining := 1 } })
      (fun t => ((t.session .B).state, (t.channel 3).state, t.budget.releasing)) = some (.lapsed, .releasing, 120) := by
  decide +kernel

theorem test_frameStart :
    shows (exec .frameStart (claimed .track 1000)) (fun t => (t.modulators[(3 : Channel)]).level) = some 1000 := by decide +kernel

/-- R171: level 1000 has q = 15 and r = 40, so the first slot is plain. -/
theorem test_slotStart :
    shows (exec .slotStart { live with modulators := live.modulators.set 3 ⟨1000, 0, 0⟩ })
      (fun t => t.modulators[(3 : Channel)]) = some ⟨1000, 40, 15⟩ := by decide +kernel

theorem test_commandTransaction :
    shows (exec (.commandTransaction .B .whole [0xC5, 0x12, 0x34, 0x00, 0xF2]) live)
      (fun t => (t.port .B).command) = some (some ⟨0x12, 0x34, []⟩) := by decide +kernel

/-- R144: the frame is judged at the deassertion. -/
theorem test_commandTransaction_ends :
    shows (exec (.commandTransaction .B .last [0x00, 0xF2]) (amid live .B 0x10 [0xC5, 0x12, 0x34] []))
      (fun t => (t.port .B).command) = some (some ⟨0x12, 0x34, []⟩) := by decide +kernel

theorem test_fetch :
    shows (exec (.fetch .B .whole [0xF0, 0, 0, 0, 0, 0]) live) (fun t => (t.port .B).dataOut.take 5) =
      some [0x10, 0x01, 0x00, 0x00, 0x00] := by decide +kernel

/-- R147: a flag set after the status byte was formed stays set. -/
theorem test_fetch_keeps_a_later_flag :
    shows (exec (.fetch .B .inner [0xF0])
      (amid (live.setPort .B { listening with response := some ⟨.ok, 7, 5, []⟩, collided := true, overwritten := true })
        .B 0x94 [] []))
      (fun t => ((t.port .B).response, (t.port .B).collided, (t.port .B).overwritten)) =
    some (none, true, false) := by decide +kernel

theorem test_statusTransaction :
    shows (exec (.statusTransaction .A .whole [0x3C, 0]) live) (fun t => (t.port .A).dataOut) =
      some [0x12, 0x12] := by decide +kernel

/-- R148: RESPONSE READY appears in a byte that starts after the response is written, and not in the one before. -/
theorem test_statusTransaction_watches :
    shows (exec (.statusTransaction .A .last [0])
      (amid (live.setPort .A { listening with response := some ⟨.ok, 7, 5, []⟩, dataOut := [0x12] }) .A 0x12 [0x3C] []))
      (fun t => (t.port .A).dataOut) = some [0x12, 0x92] := by decide +kernel

theorem test_portReset :
    shows (exec (.portReset .B .whole [0xA9, 0x96]) (claimed .held 0))
      (fun t => ((t.session .B).state, (t.channel 3).state, t.budget.releasing)) = some (.closed, .idle, 0) := by decide +kernel

theorem test_unknownOpcode :
    shows (exec .unknownOpcode (waiting live .B 0x00 [])) (answerAt .B) = some (some (.unknown, [])) := by decide +kernel

theorem test_openSession :
    shows (exec .openSession (waiting { live with sessions := PerPort.const Session.reset } .B 0x01 [0x00, 0x64]))
      (fun t => ((t.session .B).state, (t.session .B).remaining)) = some (.opened, 100) := by decide +kernel

theorem test_closeSession :
    shows (exec .closeSession (waiting live .B 0x02 [])) (fun t => ((t.session .B).state, answerAt .B t)) =
      some (.closed, some (.ok, [])) := by decide +kernel

theorem test_renew :
    shows (exec .renew (waiting { live with sessions := live.sessions.set .B { openSession with next := some 7 } } .B 0x03 []))
      (answerAt .B) = some (some (.ok, [0x00, 0x07])) := by decide +kernel

theorem test_setLease :
    shows (exec .setLease (waiting live .B 0x04 [0x03, 0xE8])) (fun t => (t.session .B).next) = some (some 1000) := by decide +kernel

theorem test_status :
    shows (exec .status (waiting live .B 0x05 [])) (answerAt .B) =
      some (some (.ok, [0, 0, 0, 0, 0, 0, 0, 0, 0, 0, 0, 0, 1, 0, 100])) := by decide +kernel

theorem test_claim :
    shows (exec .claim (waiting live .B 0x10 [0x03, 0x00, 0x78, 0x02]))
      (fun t => (answerAt .B t, (t.channel 3).state, t.budget.granted)) =
    some (some (.ok, [0x00, 0x00, 0x01]), .ramp, 120) := by decide +kernel

theorem test_claim_class :
    shows (exec .claim (waiting live .B 0x10 [0x03, 0x00, 0x78, 0x01])) (answerAt .B) = some (some (.cls, [])) := by decide +kernel

theorem test_adjust :
    shows (exec .adjust (waiting (claimed .track 256) .B 0x11 [0x00, 0x00, 0x00, 0x64]))
      (fun t => ((t.channel 3).target, t.budget.granted)) = some (100, 100) := by decide +kernel

theorem test_release :
    shows (exec .release (waiting (claimed .track 256) .B 0x12 [0x00, 0x00]))
      (fun t => ((t.channel 3).state, t.budget.granted, t.budget.releasing, (t.slot 0).gen)) =
    some (.releasing, 0, 120, 1#8) := by decide +kernel

theorem test_revoke :
    shows (exec .revoke (waiting (claimed .track 256) .A 0x4A [0x00, 0x00]))
      (fun t => ((t.noticesOf .B).queue.map Notice.kind, (t.noticesOf .B).attn)) = some ([.revoked], true) := by decide +kernel

theorem test_queryClaim :
    shows (exec .queryClaim (waiting (claimed .track 256) .B 0x13 [0x00, 0x00])) (answerAt .B) =
      some (some (.ok, [0, 0, 1, 3, 0, 120, 2, 0, 0, 0, 0, 1, 0, 0])) := by decide +kernel

/-- R162: a headroom of 400 - 120. -/
theorem test_queryBudget :
    shows (exec .queryBudget (waiting (claimed .track 256) .B 0x30 [])) (answerAt .B) =
      some (some (.ok, [1, 144, 0, 200, 0, 1, 144, 0, 120, 0, 0, 1, 24])) := by decide +kernel

theorem test_queryChannel :
    shows (exec .queryChannel (waiting live .B 0x20 [0x03, 0x01])) (answerAt .B) =
      some (some (.ok, [3, 1, 1, 0, 0, 64, 0, 128, 2, 1, 0, 200, 8, 0, 0, 40, 4, 0])) := by decide +kernel

theorem test_clearTrip :
    shows (exec .clearTrip (waiting pendingClaim .B 0x21 [0x03]))
      (fun t => ((t.channel 3).state, (t.channel 3).tripValue, t.input .tripany)) = some (.ramp, 170, false) := by decide +kernel

theorem test_softTrip :
    shows (exec .softTrip (waiting live .B 0x22 [0x01])) (fun t => ((t.session .B).soft, t.input (.soft .B))) =
      some (true, true) := by decide +kernel

theorem test_takeNotice :
    shows (exec .takeNotice (waiting live .B 0x31 [])) (answerAt .B) = some (some (.empty, [])) := by decide +kernel

theorem test_setBudget :
    shows (exec .setBudget (waiting (claimed .track 256) .A 0x40 [0x00, 0x64, 0x00, 0x00]))
      (fun t => (t.budget.effective, t.budget.granted, (t.noticesOf .B).queue.map Notice.kind)) =
    some (100, 0, [.shed, .budget]) := by decide +kernel

theorem test_setScan :
    shows (exec .setScan (waiting live .A 0x43 [0x28])) (fun t => (t.scan.period, t.scan.pendingPeriod)) =
      some (4, some 40) := by decide +kernel

theorem test_setRail :
    shows (exec .setRail (waiting live .A 0x44 [0x01, 0x00, 0x02, 0x00])) (fun t => (t.scan.railLimit, t.scan.railGain)) =
      some (256, 512) := by decide +kernel

theorem test_clearRail :
    shows (exec .clearRail (waiting { live with scan := { live.scan with railLimit := 100, railValue := 101 } } .A 0x45 []))
      (answerAt .A) = some (some (.stillHigh, [])) := by decide +kernel

theorem test_setChannelLoop :
    shows (exec .setChannelLoop (waiting (claimed .track 256) .A 0x41 [0x03, 1, 1, 0, 0, 64, 0, 128, 2, 1])) (answerAt .A) =
      some (some (.channelBusy, [])) := by decide +kernel

theorem test_setChannelLimits :
    shows (exec .setChannelLimits (waiting (claimed .ramp 256) .A 0x42 [0x03, 0, 200, 0, 100, 0, 40, 4, 0]))
      (fun t => ((t.channel 3).state, (t.channel 3).drive)) = some (.track, 100) := by decide +kernel

theorem test_setGroup :
    shows (exec .setGroup (waiting { claimed .track 256 with trip := { live.trip with inputs := 1#10 } } .A 0x46
      [0x01, 0x00, 0x01, 0x00, 0x08, 0x00]))
      (fun t => ((t.channel 3).state, t.trip.fault, (t.noticesOf .B).queue.map Notice.value)) =
    some (.held, true, [some 1]) := by decide +kernel

theorem test_clearGroup :
    shows (exec .clearGroup (waiting { live with trip := { live.trip with
      groups := live.trip.groups.set 1 ⟨1#10, 8#12, .latch, .latched⟩, fault := true } } .A 0x47 [0x01]))
      (fun t => ((t.group 1).state, t.trip.fault)) = some (.idle, false) := by decide +kernel

theorem test_setPins :
    shows (exec .setPins (waiting live .A 0x48 [0, 0, 0, 0, 1])) (fun t => (t.budget.derateOn, t.budget.effective)) =
      some (true, 200) := by decide +kernel

theorem test_setQuota :
    shows (exec .setQuota (waiting live .A 0x49 [0x01, 0x18, 0x01])) (fun t => ((t.session .B).quota, (t.session .B).floor)) =
      some (24, 1) := by decide +kernel

theorem test_evict :
    shows (exec .evict (waiting live .A 0x4B [0x01])) (fun t => (t.session .B).state) = some .lapsed := by decide +kernel

theorem test_evict_self :
    shows (exec .evict (waiting live .A 0x4B [0x00])) (answerAt .A) = some (some (.state, [])) := by decide +kernel

theorem test_restart :
    shows (exec .restart (waiting (claimed .track 256) .A 0x4C []))
      (fun t => ((t.session .A).state, (t.session .B).state, (t.channel 3).state, (t.slot 0).gen, t.cause)) =
    some (.closed, .lapsed, .idle, 1#8, .restart) := by decide +kernel

theorem test_portSelectDeasserted :
    shows (exec (.portSelectDeassertedAfterReset .C) { live with ports := PerPort.const PortState.reset })
      (fun t => (t.port .C).listening) = some true := by decide +kernel

/-! ### States for the witnesses -/

/-- A released part with every session CLOSED. -/
def closedPart : State := { live with sessions := PerPort.const Session.reset }

/-- `live` with the supervisor's session LAPSED. -/
def lapsedSupervisor : State :=
  { live with sessions := live.sessions.set .A { Session.reset with state := .lapsed, supervisor := true, floor := 0 } }

/-- A part in which port A alone is OPEN. -/
def onlySupervisor : State := { closedPart with sessions := closedPart.sessions.set .A live.sessions.a }

/-- `live` with a preload at port B. -/
def preloaded : State := { live with sessions := live.sessions.set .B { openSession with next := some 7 } }

/-- `live` with so many ticks left at port B. -/
def nearWarning (warned : Bool) (left : Nat) : State :=
  { live with sessions := live.sessions.set .B { openSession with remaining := left, warned := warned } }

/-- `claimed` with a headroom of 79. -/
def tight : State := { claimed .track 9 with budget := { live.budget with granted := 120, effective := 199 } }

/-- `live` with two PENDING records, of which the budget of 200 has room for the first. -/
def queued : State :=
  { live with
    slots := (live.slots.set 0 ⟨0, some ⟨.B, 3, 120, 2, 0, .pending, 0⟩⟩).set 1 ⟨0, some ⟨.C, 4, 150, 2, 1, .pending, 0⟩⟩
    stamp := 2
    counts := ⟨0, 1, 1, 0⟩
    budget := { live.budget with normal := 200, effective := 200 } }

/-- `live` with a notice queue and a lost count at port B. -/
def queueOf (n lost : Nat) : State :=
  live.setNotices .B ⟨List.replicate n live.budgetNotice, if 0 < lost then 2#16 else 0#16, lost, true⟩

/-- `live` with an averaging setting and a window on channel 3. -/
def windowed (averaging count : Nat) : State :=
  { live with
    channels := live.channels.set 3 { ChannelRecord.reset with config := { ChannelConfig.reset with averaging := averaging } }
    scan := { live.scan with windows := live.scan.windows.set 3 ⟨count * 100, count⟩ } }

/-- `claimed` with an interval in BISECT. -/
def bisecting (lo drive hi : Nat) : State :=
  (claimed .bisect drive).setChannel 3 { granted .bisect drive with lo := lo, hi := hi }

/-- `claimed` with votes in TRACK. -/
def tracking (drive : Nat) (settled : Bool) (d : Direction) (votes : Nat) : State :=
  (claimed .track drive).setChannel 3 { granted .track drive with settled := settled, voteDir := d, voteCount := votes }

/-- `claimed` with two strikes, in a state at a drive level. -/
def struck (st : LoopState) : State := (claimed st 256).setChannel 3 { granted st 256 with strikes := 2 }

/-- `winding` with two strikes. -/
def windingStruck : State :=
  (winding 256).setChannel 3 { (winding 256).channel 3 with strikes := 2 }

/-- `live` with group 1 in a state. -/
def grouped (st : GroupState) : State :=
  { live with trip := { live.trip with groups := live.trip.groups.set 1 ⟨1#10, 8#12, .latch, st⟩ } }

/-- `pendingClaim` with channel 4 TRIPPED too. -/
def twoTripped : State :=
  pendingClaim.setChannel 4 { ChannelRecord.reset with state := .tripped }

/-- `live` with a rail limit, a rail value and a rail flag. -/
def railed (limit value : Nat) (flag : Bool) : State :=
  { live with scan := { live.scan with railLimit := limit, railValue := value, railFlag := flag } }

/-- A claim of port B on channel 3 in RAMP, with a conversion of that channel to come. -/
def ramping : State := { claimed .ramp 256 with pending := [.channelConversionEnd 3 40] }

/-! ### Witnesses: a state and operands that meet each statement's hypotheses -/

/-- A held reset. -/
theorem witness_ReleaseSamplesStrapsAndPins :
    State.reset.resetHeld = true := by
  repeat' first | apply And.intro | apply TakenSupervisor.mk | apply TakenOpen.mk | apply Delivers.mk | decide +kernel

/-- A supervisor whose session is LAPSED sends SET BUDGET; and a cycle starts with a period pending. -/
theorem witness_OnlyAnOpenSupervisorChangesSettings :
    isReset .setBudget = false ∧
      (SupervisorOpen (waiting lapsedSupervisor .A 0x40 [1, 0, 1, 0]) .A → False) ∧
      (SupervisorOpen (waiting lapsedSupervisor .A 0x40 [1, 0, 1, 0]) .B → False) ∧
      (SupervisorOpen (waiting lapsedSupervisor .A 0x40 [1, 0, 1, 0]) .C → False) ∧
      (SupervisorOpen (waiting lapsedSupervisor .A 0x40 [1, 0, 1, 0]) .D → False) ∧
      (shows (exec .setBudget (waiting lapsedSupervisor .A 0x40 [1, 0, 1, 0])) fun _ => ()).isSome = true ∧
      isReset .scanCycleStart = false ∧
      shows (exec .scanCycleStart { closedPart with scan := { live.scan with pendingPeriod := some 9 } })
        (fun t => (t.scan.period, t.scan.pendingPeriod)) = some (9, none) := by
  repeat' first | apply And.intro | apply TakenSupervisor.mk | apply TakenOpen.mk | apply Delivers.mk | decide +kernel

/-- An occupied slot and a free one, and a command that answers a next state. -/
theorem witness_RecordsKeepTheirHandleAndStamp :
    isReset .release = false ∧ (shows (exec .release (waiting (claimed .track 256) .B 0x12 [0, 0])) fun _ => ()).isSome = true ∧
      (claimed .track 256).record 0 = some ⟨.B, 3, 120, 2, 0, .granted, 0⟩ ∧ (claimed .track 256).record 1 = none := by
  repeat' first | apply And.intro | apply TakenSupervisor.mk | apply TakenOpen.mk | apply Delivers.mk | decide +kernel

/-- No transaction in progress, one before its code byte, one within its frame and one with another first byte; a good
frame, with n at 12 too, at an EMPTY and at a WAITING slot, and bad frames. -/
theorem witness_CommandTransactionFillsOrCollides :
    Listens live .B ∧ (live.port .B).transaction = none ∧ codeless [] ∧ codeless [0x00#8] ∧
      Listens (amid live .B 0x10 [] []) .B ∧ ((amid live .B 0x10 [] []).port .B).transaction = some ⟨0x10, [], []⟩ ∧
      ((amid live .B 0x10 [0xC5, 0x12] []).port .B).transaction = some ⟨0x10, [0xC5, 0x12], []⟩ ∧
      goodFrame [0x12, 0x34, 0x00, 0xF2] = true ∧ goodFrame (Command.frame ⟨1, 2, List.replicate 12 5⟩) = true ∧
      (live.port .B).command = none ∧ ((waiting live .B 0x05 []).port .B).command.isSome = true ∧
      goodFrame [] = false ∧ goodFrame (Command.frame ⟨1, 2, List.replicate 13 5⟩) = false := by
  unfold codeless
  repeat' first | apply And.intro | apply Listens.mk | decide +kernel

/-- A held response and an empty slot; and transactions before their code byte, within a response frame, and watching. -/
theorem witness_FetchTakesTheResponseAndStatusShowsTheByte :
    Listens live .B ∧ (live.port .B).transaction = none ∧ (live.port .B).response = none ∧
      ((live.setPort .B { listening with response := some ⟨.ok, 7, 5, [1]⟩ }).port .B).response = some ⟨.ok, 7, 5, [1]⟩ ∧
      Listens (amid live .B 0x10 [] []) .B ∧ ((amid live .B 0x10 [] []).port .B).transaction = some ⟨0x10, [], []⟩ ∧
      ((amid live .B 0x10 [0xF0, 0] [1, 2]).port .B).transaction = some ⟨0x10, 0xF0 :: [0], [1, 2]⟩ ∧
      ((amid live .B 0x10 [0x3C] []).port .B).transaction = some ⟨0x10, 0x3C :: [], []⟩ := by
  repeat' first | apply And.intro | apply Listens.mk | decide +kernel

/-- A port in each session state, a port reset in one stretch and one that ends, and another second byte. -/
theorem witness_PortResetEmptiesAndCloses :
    Listens live .B ∧ (live.port .B).transaction = none ∧ (live.session .B).state = .opened ∧
      Listens lapsedSupervisor .A ∧ (lapsedSupervisor.session .A).state = .lapsed ∧
      Listens closedPart .A ∧ (closedPart.session .A).state = .closed ∧
      EndsPortReset live .B .whole [0xA9#8, 0x96#8] (statusThenZeros live .B [0xA9#8, 0x96#8]) ∧
      EndsPortReset (amid live .B 0x10 [0xA9, 0x96] []) .B .last [] [] ∧
      Listens (amid live .B 0x10 [0xA9, 0x96] []) .B ∧ ([] : List Byte) ≠ [0x96#8] ∧
      ((amid live .B 0x10 [0xA9] []).port .B).transaction = some ⟨0x10, 0xA9 :: [], []⟩ := by
  repeat' first
    | apply And.intro
    | apply Listens.mk
    | exact .inl ⟨by decide +kernel, rfl, rfl, rfl⟩
    | exact .inr ⟨by decide +kernel, rfl, rfl, rfl⟩
    | decide +kernel

/-- A released part, and a port that does not listen. -/
theorem witness_PortListensFromDeselection :
    live.resetHeld = false ∧ (State.reset.port .A).listening = false := by
  repeat' first | apply And.intro | apply TakenSupervisor.mk | apply TakenOpen.mk | apply Delivers.mk | decide +kernel

/-- A and C wait with the pointer at D: A is taken, and C is the third of the round. -/
theorem witness_ExecutorServesInRoundRobinOrder :
    Takes (waiting (waiting live .C 0x05 []) .A 0x05 []) .A ⟨0x05, 7, []⟩ ∧
      ((waiting (waiting live .C 0x05 []) .A 0x05 []).port .C).command.isSome = true ∧
      opcodeOf .status = some 0x05#8 ∧ Takes (waiting live .D 0x00 []) .D ⟨0x00, 7, []⟩ ∧
      knownOpcodes.contains 0x00#8 = false ∧
      (shows (exec .status (waiting (waiting live .C 0x05 []) .A 0x05 [])) fun _ => ()).isSome = true ∧
      (shows (exec .unknownOpcode (waiting live .D 0x00 [])) fun _ => ()).isSome = true := by
  repeat' first | apply And.intro | apply TakenSupervisor.mk | apply TakenOpen.mk | apply Delivers.mk | decide +kernel

/-- A command for each check. -/
theorem witness_FirstFailedCheckDecidesTheStatus :
    Takes (waiting live .B 0x00 []) .B ⟨0x00, 7, []⟩ ∧ knownOpcodes.contains 0x00#8 = false ∧
      Takes (waiting live .B 0x03 [1]) .B ⟨0x03, 7, [1]⟩ ∧ opcodeOf .renew = some 0x03#8 ∧ operandsPass 0x03 [1] = false ∧
      Takes (waiting closedPart .B 0x03 []) .B ⟨0x03, 7, []⟩ ∧ operandsPass 0x03 [] = true ∧
      (closedPart.session .B).state = .closed ∧ Takes (waiting lapsedSupervisor .A 0x03 []) .A ⟨0x03, 7, []⟩ ∧
      (lapsedSupervisor.session .A).state = .lapsed ∧ Takes (waiting live .B 0x45 []) .B ⟨0x45, 7, []⟩ ∧
      opcodeOf .clearRail = some 0x45#8 ∧ operandsPass 0x45 [] = true ∧ (live.session .B).state = .opened ∧
      supervisorOnly 0x45 = true ∧ (live.session .B).supervisor = false := by
  repeat' first | apply And.intro | apply TakenSupervisor.mk | apply TakenOpen.mk | apply Delivers.mk | decide +kernel

/-- A CLAIM that is refused CLASS. -/
theorem witness_RefusalsChangeNothing :
    Takes (waiting live .B 0x10 [3, 0, 120, 1]) .B ⟨0x10, 7, [3, 0, 120, 1]⟩ ∧ opcodeOf .claim = some 0x10#8 ∧
      shows (exec .claim (waiting live .B 0x10 [3, 0, 120, 1])) (fun t => (t.port .B).response) =
        some (some ⟨.cls, 7, 0x10, []⟩) := by
  repeat' first | apply And.intro | apply TakenSupervisor.mk | apply TakenOpen.mk | apply Delivers.mk | decide +kernel

/-- The least and the greatest period, in CLOSED and in OPEN. -/
theorem witness_OpenStartsALeaseAndSetLeaseStoresThePreload :
    Takes (waiting closedPart .B 0x01 [0, 1]) .B ⟨0x01, 7, [0, 1]⟩ ∧ leaseOperand [0, 1] = some 1 ∧
      (closedPart.session .B).state ≠ .opened ∧ Takes (waiting live .B 0x01 [3, 232]) .B ⟨0x01, 7, [3, 232]⟩ ∧
      leaseOperand [3, 232] = some 1000 ∧ (live.session .B).state = .opened ∧
      Takes (waiting live .B 0x04 [3, 232]) .B ⟨0x04, 7, [3, 232]⟩ := by
  repeat' first | apply And.intro | apply TakenSupervisor.mk | apply TakenOpen.mk | apply Delivers.mk | decide +kernel

/-- With a preload, without one, and in LAPSED. -/
theorem witness_RenewRestartsTheLease :
    Takes (waiting live .B 0x03 []) .B ⟨0x03, 7, []⟩ ∧ (live.session .B).state = .opened ∧
      (live.session .B).next = none ∧ (live.session .B).current = some 100 ∧
      Takes (waiting preloaded .B 0x03 []) .B ⟨0x03, 7, []⟩ ∧ (preloaded.session .B).state = .opened ∧
      (preloaded.session .B).next = some 7 ∧ Takes (waiting lapsedSupervisor .A 0x03 []) .A ⟨0x03, 7, []⟩ ∧
      (lapsedSupervisor.session .A).state = .lapsed := by
  repeat' first | apply And.intro | apply TakenSupervisor.mk | apply TakenOpen.mk | apply Delivers.mk | decide +kernel

/-- A tick above the warning point, the tick that reaches it, and one at 2 with the flag set. -/
theorem witness_LeaseTickCountsDownAndWarns :
    (live.session .B).state = .opened ∧ (live.session .B).current = some 100 ∧ 2 ≤ (live.session .B).remaining ∧
      (live.session .B).remaining - 1 ≠ 100 / 2 ∧ ((nearWarning false 51).session .B).remaining - 1 = 100 / 2 ∧
      ((nearWarning false 51).session .B).warned = false ∧ 2 ≤ ((nearWarning true 2).session .B).remaining ∧
      ((nearWarning true 2).session .B).warned = true ∧ ((nearWarning true 2).session .B).current = some 100 ∧
      ((nearWarning true 2).session .B).state = .opened := by
  repeat' first | apply And.intro | apply TakenSupervisor.mk | apply TakenOpen.mk | apply Delivers.mk | decide +kernel

/-- A lease with one tick left. -/
theorem witness_ExpiryEndsTheSession :
    ((nearWarning true 1).session .B).state = .opened ∧ ((nearWarning true 1).session .B).remaining = 1 := by
  repeat' first | apply And.intro | apply TakenSupervisor.mk | apply TakenOpen.mk | apply Delivers.mk | decide +kernel

/-- CLOSE; EVICT of another port, of the sender, and of a port that is not OPEN. -/
theorem witness_CloseAndEvictEndSessions :
    TakenOpen (waiting live .B 0x02 []) .B ⟨0x02, 7, []⟩ 0x02 ∧
      TakenSupervisor (waiting live .A 0x4B [1]) .A ⟨0x4B, 7, [1]⟩ 0x4B ∧ portOperand [1] = some .B ∧
      (live.session .B).state = .opened ∧ TakenSupervisor (waiting live .A 0x4B [0]) .A ⟨0x4B, 7, [0]⟩ 0x4B ∧
      portOperand [0] = some .A ∧ TakenSupervisor (waiting onlySupervisor .A 0x4B [1]) .A ⟨0x4B, 7, [1]⟩ 0x4B ∧
      (onlySupervisor.session .B).state ≠ .opened := by
  repeat' first | apply And.intro | apply TakenSupervisor.mk | apply TakenOpen.mk | apply Delivers.mk | decide +kernel

/-- Each query, QUERY CLAIM from the owner and from the supervisor, and QUERY CHANNEL of both parts. -/
theorem witness_QueriesReportAndChangeNothing :
    Takes (waiting live .B 0x05 []) .B ⟨0x05, 7, []⟩ ∧ ((live.session .A).supervisor = decide (Port.A = .A)) ∧
      ((live.session .B).supervisor = decide (Port.B = .A)) ∧ ((live.session .C).supervisor = decide (Port.C = .A)) ∧
      ((live.session .D).supervisor = decide (Port.D = .A)) ∧
      TakenOpen (waiting live .B 0x30 []) .B ⟨0x30, 7, []⟩ 0x30 ∧
      TakenOpen (waiting (claimed .track 9) .B 0x13 [0, 0]) .B ⟨0x13, 7, [0, 0]⟩ 0x13 ∧
      TakenOpen (waiting (claimed .track 9) .A 0x13 [0, 0]) .A ⟨0x13, 7, [0, 0]⟩ 0x13 ∧
      handleOperand [0, 0] = some ⟨0, 0⟩ ∧ ((claimed .track 9).slot 0).gen = 0 ∧
      (claimed .track 9).record 0 = some ⟨.B, 3, 120, 2, 0, .granted, 0⟩ ∧
      ((claimed .track 9).session .A).supervisor = true ∧
      TakenOpen (waiting live .B 0x20 [11, 0]) .B ⟨0x20, 7, [11, 0]⟩ 0x20 ∧
      queryChannelOperands [11, 0] = some (11, false) ∧
      TakenOpen (waiting live .B 0x20 [11, 1]) .B ⟨0x20, 7, [11, 1]⟩ 0x20 ∧
      queryChannelOperands [11, 1] = some (11, true) := by
  repeat' first | apply And.intro | apply TakenSupervisor.mk | apply TakenOpen.mk | apply Delivers.mk | decide +kernel

/-- A CLAIM that reaches the allocator. -/
theorem witness_ClaimIsRefusedByTheFirstFailedTest :
    TakenOpen (waiting live .B 0x10 [3, 0, 120, 1]) .B ⟨0x10, 7, [3, 0, 120, 1]⟩ 0x10 ∧
      claimOperands [3, 0, 120, 1] = some ⟨3, 120, 1⟩ := by
  repeat' first | apply And.intro | apply TakenSupervisor.mk | apply TakenOpen.mk | apply Delivers.mk | decide +kernel

/-- A CLAIM by port C of a channel that port B holds, into slot 1. -/
theorem witness_ClaimMakesARecordInTheLowestFreeSlot :
    TakenOpen (waiting (claimed .track 256) .C 0x10 [3, 0, 200, 2]) .C ⟨0x10, 7, [3, 0, 200, 2]⟩ 0x10 ∧
      claimOperands [3, 0, 200, 2] = some ⟨3, 200, 2⟩ ∧ ((claimed .track 256).session .C).floor ≤ 2 ∧
      ((claimed .track 256).channel 3).config.enable = true ∧ 200 ≤ ((claimed .track 256).channel 3).config.rating ∧
      200 ≤ (claimed .track 256).budget.normal ∧
      (∀ j, ((claimed .track 256).record j).map (fun r => (r.port, r.channel)) ≠ some (.C, 3)) ∧
      (claimed .track 256).count .C < ((claimed .track 256).session .C).quota ∧ (claimed .track 256).record 1 = none ∧
      (∀ j, j < (1 : Fin 24) → ((claimed .track 256).record j).isSome = true) ∧ (claimed .track 256).stamp < 4294967295 := by
  repeat' first | apply And.intro | apply TakenSupervisor.mk | apply TakenOpen.mk | apply Delivers.mk | decide +kernel

/-- A stale handle at slot 23, a live one of another port, and each of the four commands. -/
theorem witness_HandlesAreResolvedBeforeTheCommand :
    ((claimed .track 9).slot 0).gen ≠ 1 ∧ (claimed .track 9).record 23 = none ∧
      TakenOpen (waiting (claimed .track 9) .C 0x11 [0, 23, 0, 9]) .C ⟨0x11, 7, [0, 23, 0, 9]⟩ 0x11 ∧
      (adjustOperands [0, 23, 0, 9]).map AdjustOperands.handle = some ⟨0, 23⟩ ∧
      TakenOpen (waiting (claimed .track 9) .C 0x12 [1, 0]) .C ⟨0x12, 7, [1, 0]⟩ 0x12 ∧ handleOperand [1, 0] = some ⟨1, 0⟩ ∧
      TakenOpen (waiting (claimed .track 9) .C 0x13 [1, 0]) .C ⟨0x13, 7, [1, 0]⟩ 0x13 ∧
      TakenSupervisor (waiting (claimed .track 9) .A 0x4A [1, 0]) .A ⟨0x4A, 7, [1, 0]⟩ 0x4A ∧
      ((claimed .track 9).slot 0).gen = 0 ∧ (claimed .track 9).record 0 = some ⟨.B, 3, 120, 2, 0, .granted, 0⟩ ∧
      Port.B ≠ .C ∧ ((claimed .track 9).session .C).supervisor = false := by
  repeat' first | apply And.intro | apply TakenSupervisor.mk | apply TakenOpen.mk | apply Delivers.mk | decide +kernel

/-- A PENDING and a GRANTED record, and an amount for each case: above the rating, below, equal, within the headroom to its end, and above it. -/
theorem witness_AdjustFollowsItsTable :
    TakenOpen (waiting (claimed .track 9) .B 0x11 [0, 0, 0, 200]) .B ⟨0x11, 7, [0, 0, 0, 200]⟩ 0x11 ∧
      adjustOperands [0, 0, 0, 200] = some ⟨⟨0, 0⟩, 200⟩ ∧ ((claimed .track 9).slot 0).gen = 0 ∧
      (claimed .track 9).record 0 = some ⟨.B, 3, 120, 2, 0, .granted, 0⟩ ∧
      ((claimed .track 9).channel 3).state.grantedState = true ∧ ((claimed .track 9).channel 3).config.rating = 200 ∧
      (claimed .track 9).headroom = 280 ∧ (tight.slot 0).gen = 0 ∧ tight.headroom = 79 ∧
      TakenOpen (waiting tight .B 0x11 [0, 0, 0, 199]) .B ⟨0x11, 7, [0, 0, 0, 199]⟩ 0x11 ∧
      TakenOpen (waiting tight .B 0x11 [0, 0, 0, 200]) .B ⟨0x11, 7, [0, 0, 0, 200]⟩ 0x11 ∧
      adjustOperands [0, 0, 0, 199] = some ⟨⟨0, 0⟩, 199⟩ ∧
      TakenOpen (waiting tight .B 0x11 [0, 0, 0, 119]) .B ⟨0x11, 7, [0, 0, 0, 119]⟩ 0x11 ∧
      TakenOpen (waiting tight .B 0x11 [0, 0, 0, 120]) .B ⟨0x11, 7, [0, 0, 0, 120]⟩ 0x11 ∧
      TakenOpen (waiting tight .B 0x11 [0, 0, 0, 201]) .B ⟨0x11, 7, [0, 0, 0, 201]⟩ 0x11 ∧
      TakenOpen (waiting pendingClaim .B 0x11 [0, 0, 0, 200]) .B ⟨0x11, 7, [0, 0, 0, 200]⟩ 0x11 ∧
      pendingClaim.record 0 = some ⟨.B, 3, 120, 2, 0, .pending, 0⟩ := by
  repeat' first | apply And.intro | apply TakenSupervisor.mk | apply TakenOpen.mk | apply Delivers.mk | decide +kernel

/-- A PENDING record, and a GRANTED one in TRACK, at drive 0 and in HELD. -/
theorem witness_ReleaseAndRevokeFreeTheClaim :
    handleOperand [0, 0] = some ⟨0, 0⟩ ∧ TakenOpen (waiting (claimed .track 9) .B 0x12 [0, 0]) .B ⟨0x12, 7, [0, 0]⟩ 0x12 ∧
      TakenSupervisor (waiting (claimed .held 0) .A 0x4A [0, 0]) .A ⟨0x4A, 7, [0, 0]⟩ 0x4A ∧
      ((claimed .track 9).slot 0).gen = 0 ∧ (claimed .track 9).record 0 = some ⟨.B, 3, 120, 2, 0, .granted, 0⟩ ∧
      ((claimed .track 9).channel 3).state.grantedState = true ∧ ((claimed .track 0).channel 3).state.grantedState = true ∧
      ((claimed .held 0).channel 3).state.grantedState = true ∧ ((claimed .held 0).channel 3).drive = 0 ∧
      TakenOpen (waiting pendingClaim .B 0x12 [0, 0]) .B ⟨0x12, 7, [0, 0]⟩ 0x12 ∧
      pendingClaim.record 0 = some ⟨.B, 3, 120, 2, 0, .pending, 0⟩ := by
  repeat' first | apply And.intro | apply TakenSupervisor.mk | apply TakenOpen.mk | apply Delivers.mk | decide +kernel

/-- `queued` with a record of port D at the front of the wait queue, on a channel that is TRIPPED. -/
def queuedBehindATrip : State :=
  { queued with
    slots := queued.slots.set 2 ⟨0, some ⟨.D, 5, 10, 0, 2, .pending, 0⟩⟩
    channels := queued.channels.set 5 { ChannelRecord.reset with state := .tripped } }

/-- A pass that grants one record and stops at the next, and what it leaves; and one that passes over a record on a channel
that is not free, which stays ahead of the one granted. -/
theorem witness_PassKeepsHeadOfLineOrder :
    (queued.allocationPass.recordIs .granted 0 = true) ∧ (queued.recordIs .pending 0 = true) ∧
      (queued.allocationPass.recordIs .pending 1 = true) ∧
      queued.allocationPass.record 1 = some ⟨.C, 4, 150, 2, 1, .pending, 0⟩ ∧
      queued.allocationPass.eligible ⟨.C, 4, 150, 2, 1, .pending, 0⟩ = true ∧
      queuedBehindATrip.allocationPass.recordIs .granted 0 = true ∧
      queuedBehindATrip.record 0 = queued.record 0 ∧
      queuedBehindATrip.allocationPass.record 2 = some ⟨.D, 5, 10, 0, 2, .pending, 0⟩ ∧
      ((queuedBehindATrip.record 0).map fun r => r.notBehind ⟨.D, 5, 10, 0, 2, .pending, 0⟩) = some false := by
  repeat' first | apply And.intro | apply TakenSupervisor.mk | apply TakenOpen.mk | apply Delivers.mk | decide +kernel

/-- A budget below the granted sum: the record is shed, and its channel winds down. -/
theorem witness_SheddingTakesTheLeastUrgentNewestFirst :
    { (claimed .track 9) with budget := { (claimed .track 9).budget with effective := 100 } }.budget.granted =
        { (claimed .track 9) with budget := { (claimed .track 9).budget with effective := 100 } }.grantedTotal ∧
      (claimed .track 9).recordIs .granted 0 = true ∧
      { (claimed .track 9) with budget := { (claimed .track 9).budget with effective := 100 } }.shed.recordIs .pending 0 = true ∧
      (claimed .track 9).record 0 = some ⟨.B, 3, 120, 2, 0, .granted, 0⟩ ∧
      HoldsChannel { (claimed .track 9) with budget := { (claimed .track 9).budget with effective := 100 } } 0
        ⟨.B, 3, 120, 2, 0, .granted, 0⟩ := by
  repeat' first | apply And.intro | apply HoldsChannel.mk | decide +kernel

/-- SET BUDGET at both ends of its ranges; DERATE at a level that asserts it, one that deasserts it, and one that changes nothing. -/
theorem witness_BudgetActionsShedNotifyAndPass :
    TakenSupervisor (waiting live .A 0x40 [15, 255, 0, 0]) .A ⟨0x40, 7, [15, 255, 0, 0]⟩ 0x40 ∧
      budgetOperands [15, 255, 0, 0] = some (4095, 0) ∧ live.resetHeld = false ∧ live.budget.derateOn = false ∧
      live.budget.deratePolarity = .activeLow ∧
      { live.budget with derateOn := true }.derateOn = true := by
  repeat' first | apply And.intro | apply TakenSupervisor.mk | apply TakenOpen.mk | apply Delivers.mk | decide +kernel

/-- A port that is not OPEN, a queue of 7 and one of 8 with the count at 255. -/
theorem witness_NoticeJoinsItsQueueOrIsLost :
    (closedPart.session .B).state ≠ .opened ∧ (live.session .B).state = .opened ∧
      ((queueOf 7 0).noticesOf .B).queue.length < 8 ∧ 8 ≤ ((queueOf 8 255).noticesOf .B).queue.length ∧
      ((queueOf 8 255).session .B).state = .opened := by
  repeat' first | apply And.intro | apply TakenSupervisor.mk | apply TakenOpen.mk | apply Delivers.mk | decide +kernel

/-- An empty queue, one record, and a full queue with a summary. -/
theorem witness_TakeNoticeReturnsTheOldest :
    TakenOpen (waiting live .B 0x31 []) .B ⟨0x31, 7, []⟩ 0x31 ∧ (live.noticesOf .B).queue = [] ∧
      (live.noticesOf .B).lostCount = 0 ∧
      TakenOpen (waiting (queueOf 1 0) .B 0x31 []) .B ⟨0x31, 7, []⟩ 0x31 ∧
      ((queueOf 1 0).noticesOf .B).queue = live.budgetNotice :: [] ∧ ((queueOf 1 0).noticesOf .B).lostCount = 0 ∧
      TakenOpen (waiting (queueOf 8 1) .B 0x31 []) .B ⟨0x31, 7, []⟩ 0x31 ∧
      ((queueOf 8 1).noticesOf .B).queue = live.budgetNotice :: List.replicate 7 live.budgetNotice ∧
      0 < ((queueOf 8 1).noticesOf .B).lostCount := by
  repeat' first | apply And.intro | apply TakenSupervisor.mk | apply TakenOpen.mk | apply Delivers.mk | decide +kernel

/-- A window of 8 with 6 conversions in it. -/
theorem witness_ConversionJoinsTheWindow :
    (windowed 8 6).resetHeld = false ∧ ((windowed 8 6).scan.windows[(3 : Channel)]).count + 1 < ((windowed 8 6).channel 3).config.averaging := by
  repeat' first | apply And.intro | apply TakenSupervisor.mk | apply TakenOpen.mk | apply Delivers.mk | decide +kernel

/-- Below the target below and at the ceiling, and at the target from the start and from a step above. -/
theorem witness_RampClimbsUntilTheTarget :
    Delivers (claimed .ramp 256) 3 119 119 ∧
      ((claimed .ramp 256).channel 3).state = .ramp ∧
      NoTrip ((claimed .ramp 256).channel 3) 119 ∧
      119 < ((claimed .ramp 256).channel 3).target ∧
      ((claimed .ramp 256).channel 3).drive < ((claimed .ramp 256).channel 3).config.ceiling ∧
      ((claimed .ramp 2048).channel 3).drive = ((claimed .ramp 2048).channel 3).config.ceiling ∧
      Delivers (claimed .ramp 2048) 3 119 119 ∧
      Delivers (claimed .ramp 1) 3 120 120 ∧
      ((claimed .ramp 1).channel 3).target ≤ 120 ∧
      ((claimed .ramp 1).channel 3).drive ≤ ((claimed .ramp 1).channel 3).lastBelow + 1 ∧
      Delivers (claimed .ramp 2) 3 160 160 ∧
      NoTrip ((claimed .ramp 2).channel 3) 160 ∧
      ((claimed .ramp 2).channel 3).lastBelow + 1 < ((claimed .ramp 2).channel 3).drive := by
  repeat' first | apply And.intro | apply TakenSupervisor.mk | apply TakenOpen.mk | apply Delivers.mk | decide +kernel

/-- An interval that the measurement closes, and one that it halves. -/
theorem witness_BisectHalvesTheInterval :
    Delivers (bisecting 10 11 13) 3 119 119 ∧
      ((bisecting 10 11 13).channel 3).state = .bisect ∧
      NoTrip ((bisecting 10 11 13).channel 3) 119 ∧
      ((bisecting 10 11 13).channel 3).drive + 1 < ((bisecting 10 11 13).channel 3).hi ∧
      Delivers (bisecting 10 11 13) 3 120 120 ∧
      ((bisecting 10 11 13).channel 3).drive ≤ ((bisecting 10 11 13).channel 3).lo + 1 := by
  repeat' first | apply And.intro | apply TakenSupervisor.mk | apply TakenOpen.mk | apply Delivers.mk | decide +kernel

/-- The ends of the band, settled and not; the first vote each way; and the deciding vote up at the ceiling, up below it, and down at 0. -/
theorem witness_TrackVotesAndAdjusts :
    Delivers (tracking 256 true .none 0) 3 118 118 ∧
      ((tracking 256 true .none 0).channel 3).state = .track ∧
      NoTrip ((tracking 256 true .none 0).channel 3) 118 ∧
      ((tracking 256 true .none 0).channel 3).target ≤ 118 + ((tracking 256 true .none 0).channel 3).config.deadband ∧
      Delivers (tracking 256 false .none 0) 3 122 122 ∧
      122 ≤ ((tracking 256 false .none 0).channel 3).target + ((tracking 256 false .none 0).channel 3).config.deadband ∧
      ((tracking 256 true .none 0).channel 3).settled = true ∧
      ((tracking 256 false .none 0).channel 3).settled = false ∧
      Delivers (tracking 256 true .none 0) 3 117 117 ∧
      117 + 2 < ((tracking 256 true .none 0).channel 3).target ∧
      votesNow ((tracking 256 true .none 0).channel 3) .up < ((tracking 256 true .none 0).channel 3).confirm ∧
      Delivers (tracking 256 true .up 1) 3 117 117 ∧
      ((tracking 256 true .up 1).channel 3).confirm ≤ votesNow ((tracking 256 true .up 1).channel 3) .up ∧
      ((tracking 256 true .up 1).channel 3).drive < ((tracking 256 true .up 1).channel 3).config.ceiling ∧
      Delivers (tracking 2048 true .up 1) 3 117 117 ∧
      ((tracking 2048 true .up 1).channel 3).drive = ((tracking 2048 true .up 1).channel 3).config.ceiling ∧
      Delivers (tracking 0 true .down 1) 3 123 123 ∧
      ((tracking 0 true .down 1).channel 3).target + 2 < 123 ∧
      ((tracking 0 true .down 1).channel 3).confirm ≤ votesNow ((tracking 0 true .down 1).channel 3) .down := by
  repeat' first | apply And.intro | apply TakenSupervisor.mk | apply TakenOpen.mk | apply Delivers.mk | decide +kernel

/-- LIMITED on both sides of the band's end, and IDLE, HELD and TRIPPED. -/
theorem witness_LimitedAndRestingChannelsTakeMeasurements :
    Delivers (claimed .limited 2048) 3 118 118 ∧
      ((claimed .limited 2048).channel 3).state = .limited ∧
      NoTrip ((claimed .limited 2048).channel 3) 118 ∧
      ((claimed .limited 2048).channel 3).target ≤ 118 + ((claimed .limited 2048).channel 3).config.deadband ∧
      Delivers (claimed .limited 2048) 3 117 117 ∧
      117 + ((claimed .limited 2048).channel 3).config.deadband < ((claimed .limited 2048).channel 3).target ∧
      Delivers live 3 4095 4095 ∧
      (live.channel 3).state = .idle ∧
      Delivers (claimed .held 0) 3 0 0 ∧
      ((claimed .held 0).channel 3).state = .held ∧
      Delivers pendingClaim 3 0 0 ∧
      (pendingClaim.channel 3).state = .tripped := by
  repeat' first | apply And.intro | apply TakenSupervisor.mk | apply TakenOpen.mk | apply Delivers.mk | decide +kernel

/-- A drive one above the down-step, and one equal to it. -/
theorem witness_WindDownEndsInIdleAndAPass :
    Delivers (winding 129) 3 160 160 ∧
      ((winding 129).channel 3).state = .releasing ∧
      NoTrip ((winding 129).channel 3) 160 ∧
      ((winding 129).channel 3).config.downStep < ((winding 129).channel 3).drive ∧
      Delivers (winding 128) 3 160 160 ∧
      ((winding 128).channel 3).drive ≤ ((winding 128).channel 3).config.downStep := by
  repeat' first | apply And.intro | apply TakenSupervisor.mk | apply TakenOpen.mk | apply Delivers.mk | decide +kernel

/-- A group that becomes ACTIVE on a channel in TRACK, and one on a winding channel. -/
theorem witness_GroupsFormHoldsAndFault :
    heldBy (#v[⟨1#10, 8#12, .follow, .active⟩, Group.reset, Group.reset, Group.reset]) 3 = true ∧
      ((claimed .track 9).channel 3).hold = false ∧ ((winding 9).channel 3).state = .releasing ∧
      ((winding 9).channel 3).hold = false ∧ (closedPart.session .B).state ≠ .opened ∧
      (∀ c, ((claimed .track 9).channel c).hold = heldBy (claimed .track 9).trip.groups c) ∧
      (claimed .track 9).holderPort 3 = some .B := by
  repeat' first | apply And.intro | apply TakenSupervisor.mk | apply TakenOpen.mk | apply Delivers.mk | decide +kernel

/-- A released part; a pin level that changes the input and one that does not; a soft bit that changes and one that does not. -/
theorem witness_InputEventFollowsTheGroupTable :
    live.resetHeld = false ∧ live.trip.fltPolarity[(0 : FltPin)] = .activeLow ∧ live.input (.flt 0) = false ∧
      TakenOpen (waiting live .B 0x22 [1]) .B ⟨0x22, 7, [1]⟩ 0x22 ∧ flagOperand [1] = some true ∧
      (live.session .B).soft ≠ true ∧ TakenOpen (waiting live .B 0x22 [0]) .B ⟨0x22, 7, [0]⟩ 0x22 ∧
      flagOperand [0] = some false ∧ (live.session .B).soft = false := by
  repeat' first | apply And.intro | apply TakenSupervisor.mk | apply TakenOpen.mk | apply Delivers.mk | decide +kernel

/-- SET GROUP with the fullest sets; CLEAR GROUP in each state. -/
theorem witness_GroupCommandsFollowTheirTables :
    TakenSupervisor (waiting live .A 0x46 [3, 3, 255, 15, 255, 1]) .A ⟨0x46, 7, [3, 3, 255, 15, 255, 1]⟩ 0x46 ∧
      groupOperands [3, 3, 255, 15, 255, 1] = some ⟨3, 1023#10, 4095#12, .latch⟩ ∧
      TakenSupervisor (waiting (grouped .latched) .A 0x47 [1]) .A ⟨0x47, 7, [1]⟩ 0x47 ∧ groupOperand [1] = some 1 ∧
      ((grouped .latched).group 1).state = .latched ∧
      TakenSupervisor (waiting (grouped .active) .A 0x47 [1]) .A ⟨0x47, 7, [1]⟩ 0x47 ∧
      ((grouped .active).group 1).state = .active ∧ ((grouped .idle).group 1).state = .idle ∧
      TakenSupervisor (waiting (grouped .idle) .A 0x47 [1]) .A ⟨0x47, 7, [1]⟩ 0x47 := by
  repeat' first | apply And.intro | apply TakenSupervisor.mk | apply TakenOpen.mk | apply Delivers.mk | decide +kernel

/-- A channel that is not TRIPPED; one of another port; the last TRIPPED channel; and one of two. -/
theorem witness_ClearTripFreesTheChannel :
    TakenOpen (waiting live .B 0x21 [3]) .B ⟨0x21, 7, [3]⟩ 0x21 ∧ channelOperand [3] = some 3 ∧ (live.channel 3).state ≠ .tripped ∧
      TakenOpen (waiting pendingClaim .C 0x21 [3]) .C ⟨0x21, 7, [3]⟩ 0x21 ∧ (pendingClaim.channel 3).state = .tripped ∧
      (pendingClaim.session .C).supervisor = false ∧ (pendingClaim.channel 3).tripOwner ≠ some .C ∧
      TakenOpen (waiting pendingClaim .B 0x21 [3]) .B ⟨0x21, 7, [3]⟩ 0x21 ∧ (pendingClaim.channel 3).tripOwner = some .B ∧
      pendingClaim.input .tripany = true ∧ (∀ d, d ≠ (3 : Channel) → (pendingClaim.channel d).state ≠ .tripped) ∧
      TakenOpen (waiting twoTripped .B 0x21 [3]) .B ⟨0x21, 7, [3]⟩ 0x21 ∧ twoTripped.input .tripany = true ∧
      (∃ d, d ≠ (3 : Channel) ∧ (twoTripped.channel d).state = .tripped) ∧ (twoTripped.channel 3).tripOwner = some .B := by
  repeat' first | apply And.intro | apply TakenSupervisor.mk | apply TakenOpen.mk | apply Delivers.mk | decide +kernel

/-- A measurement at the limit and one above it; CLEAR RAIL refused, and accepted with the flag set and clear. -/
theorem witness_RailFlagFollowsTheLimit :
    (railed 100 100 false).resetHeld = false ∧
      min 4095 (min 4095 (100 : Int).toNat * (railed 100 100 false).scan.railGain / 1024) ≤ (railed 100 100 false).scan.railLimit ∧
      (railed 100 100 false).scan.railLimit < min 4095 (min 4095 (101 : Int).toNat * (railed 100 100 false).scan.railGain / 1024) ∧
      (railed 100 100 false).scan.railFlag = false ∧
      TakenSupervisor (waiting (railed 100 101 true) .A 0x45 []) .A ⟨0x45, 7, []⟩ 0x45 ∧
      (railed 100 101 true).scan.railLimit < (railed 100 101 true).scan.railValue ∧
      TakenSupervisor (waiting (railed 100 100 true) .A 0x45 []) .A ⟨0x45, 7, []⟩ 0x45 ∧
      (railed 100 100 true).scan.railValue ≤ (railed 100 100 true).scan.railLimit ∧
      TakenSupervisor (waiting (railed 100 100 false) .A 0x45 []) .A ⟨0x45, 7, []⟩ 0x45 ∧
      TakenOpen (waiting live .B 0x45 []) .B ⟨0x45, 7, []⟩ 0x45 ∧ (live.session .B).supervisor = false := by
  repeat' first | apply And.intro | apply TakenSupervisor.mk | apply TakenOpen.mk | apply Delivers.mk | decide +kernel

/-- Each command at an end of its ranges. -/
theorem witness_ScanRailAndQuotaSettingsAreStored :
    live.resetHeld = false ∧ TakenSupervisor (waiting live .A 0x43 [255]) .A ⟨0x43, 7, [255]⟩ 0x43 ∧
      scanOperand [255] = some 255 ∧
      TakenSupervisor (waiting live .A 0x44 [15, 255, 0, 0]) .A ⟨0x44, 7, [15, 255, 0, 0]⟩ 0x44 ∧
      railOperands [15, 255, 0, 0] = some (4095, 0) ∧
      TakenSupervisor (waiting live .A 0x49 [3, 24, 3]) .A ⟨0x49, 7, [3, 24, 3]⟩ 0x49 ∧
      quotaOperands [3, 24, 3] = some ⟨.D, 24, 3⟩ := by
  repeat' first | apply And.intro | apply TakenSupervisor.mk | apply TakenOpen.mk | apply Delivers.mk | decide +kernel

/-- SET CHANNEL LOOP on an idle unclaimed channel, a claimed one and a winding one; SET CHANNEL LIMITS with a ceiling that
clips, one in RELEASING, one that ends BISECT, one that ends LIMITED, and one that changes nothing. -/
theorem witness_ChannelConfigurationCommandsFollowTheirTables :
    TakenSupervisor (waiting live .A 0x41 [3, 0, 0, 0, 0, 1, 3, 255, 63, 8]) .A ⟨0x41, 7, [3, 0, 0, 0, 0, 1, 3, 255, 63, 8]⟩ 0x41 ∧
      loopOperands [3, 0, 0, 0, 0, 1, 3, 255, 63, 8] = some ⟨3, false, 0, 1, 1023, 63, 8⟩ ∧ (live.channel 3).state = .idle ∧
      ¬ (∃ i, (live.record i).map Claim.channel = some 3) ∧ ((winding 9).channel 3).state ≠ .idle ∧
      ((winding 9).channel 3).state ≠ .tripped ∧ (∃ i, ((claimed .track 9).record i).map Claim.channel = some 3) ∧
      TakenSupervisor (waiting (claimed .ramp 256) .A 0x42 [3, 0, 1, 0, 255, 3, 255, 0, 0]) .A
        ⟨0x42, 7, [3, 0, 1, 0, 255, 3, 255, 0, 0]⟩ 0x42 ∧
      limitsOperands [3, 0, 1, 0, 255, 3, 255, 0, 0] = some ⟨3, 1, 255, 1023, 0⟩ ∧
      255 < ((claimed .ramp 256).channel 3).drive ∧ ((claimed .ramp 256).channel 3).state.settling = true ∧
      255 < ((winding 256).channel 3).drive ∧ ((bisecting 10 11 300).channel 3).state = .bisect ∧
      ((bisecting 10 11 300).channel 3).drive ≤ 255 ∧ 255 < ((bisecting 10 11 300).channel 3).hi ∧
      255 < ((bisecting 10 11 300).channel 3).config.ceiling ∧ ((claimed .limited 2048).channel 3).state = .limited ∧
      ((claimed .limited 2048).channel 3).config.ceiling < 2049 ∧ ((claimed .ramp 255).channel 3).drive ≤ 255 := by
  repeat' first | apply And.intro | apply TakenSupervisor.mk | apply TakenOpen.mk | apply Delivers.mk | decide +kernel

/-- RESTART from the supervisor. -/
theorem witness_RestartClearsRunTimeState :
    TakenSupervisor (waiting live .A 0x4C []) .A ⟨0x4C, 7, []⟩ 0x4C := by
  repeat' first | apply And.intro | apply TakenSupervisor.mk | apply TakenOpen.mk | apply Delivers.mk | decide +kernel

/-- A released part. -/
theorem witness_ModulatorsTakeFrameAndSlotStarts :
    live.resetHeld = false := by
  repeat' first | apply And.intro | apply TakenSupervisor.mk | apply TakenOpen.mk | apply Delivers.mk | decide +kernel

/-- The ends of both ranges. -/
theorem witness_FrameHighTimeEqualsTheLevel :
    (⟨4095, 63, 0⟩ : Modulator).acc < 64 ∧ (⟨4095, 63, 0⟩ : Modulator).level ≤ 4095 ∧ (⟨0, 0, 0⟩ : Modulator).acc < 64 ∧
      live.resetHeld = false := by
  repeat' first | apply And.intro | apply TakenSupervisor.mk | apply TakenOpen.mk | apply Delivers.mk | decide +kernel

/-- An empty queue, and one with a command at its front. -/
theorem witness_StepTakesTheFrontCommand :
    live.pending = [] ∧ ramping.pending = .channelConversionEnd 3 40 :: [] := ⟨rfl, rfl⟩

/-- A held reset, and a command that is no reset. -/
theorem witness_NothingMovesWhileResetIsHeld :
    HeldAtInitial State.reset ∧ State.reset.resetHeld = true ∧ isReset .frameStart = false :=
  ⟨fun _ => rfl, rfl, rfl⟩

/-- `ramping` takes its conversion. -/
theorem witness_step : (shows (step ramping) fun t => (t.channel 3).drive) = some 320 := by decide +kernel

theorem witness_ChannelRecordsStaySound : ChannelsSound ramping := by
  intro c
  constructor <;> revert c <;> decide +kernel

theorem witness_TripUnitSettled : TripUnitSettled live := by
  constructor <;> decide +kernel

/-- The invariant of the trip unit at `ramping`. -/
theorem witness_TripUnitStaysSound : TripUnitSound ramping where
  held := fun h => by cases h
  flt := by decide +kernel
  rail := by decide +kernel
  tripany := by decide +kernel
  soft := fun p => by cases p <;> decide +kernel
  active := by decide +kernel
  holds := by decide +kernel
  fault := by decide +kernel

theorem witness_NoticeQueuesStaySound : NoticesSound ramping := by
  intro p
  refine ⟨?_, fun _ => by cases p <;> decide +kernel⟩
  cases p <;> constructor <;> decide +kernel

theorem witness_GrantedSumStaysWithinBudget : GrantedSumSound ramping where
  held := fun h => by cases h
  granted := by decide +kernel
  effective := by decide +kernel
  within := by decide +kernel

/-- The only record of `ramping`. -/
theorem ramping_record {i : Fin 24} {r : Claim} (h : ramping.record i = some r) :
    i = 0 ∧ r = ⟨.B, 3, 120, 2, 0, .granted, 0⟩ := by
  have key : ∀ i, (ramping.record i).all (fun r => decide (i = 0 ∧ r = ⟨.B, 3, 120, 2, 0, .granted, 0⟩)) = true := by
    decide +kernel
  simpa [h] using key i

theorem witness_GrantsAndLoopsStayInAgreement : GrantsAgree ramping where
  granted_held_by_loop := by
    intro i r h _
    obtain ⟨rfl, rfl⟩ := ramping_record h
    decide +kernel
  loop_names_record := by
    intro c h
    refine ⟨0, ⟨.B, 3, 120, 2, 0, .granted, 0⟩, by decide +kernel, rfl, ?_⟩
    have key : ∀ c, (ramping.channel c).state.grantedState = true → (3 : Channel) = c := by decide +kernel
    exact key c h
  releasing_target := by decide +kernel
  release_only_releasing := by decide +kernel
  releasing_sum := by decide +kernel

theorem witness_ClaimTableStaysSound : TableSound ramping where
  counts := fun p => by cases p <;> decide +kernel
  stamp_le := by decide +kernel
  stamps_below := by
    intro i r h
    obtain ⟨rfl, rfl⟩ := ramping_record h
    decide +kernel
  stamps_distinct := fun _ _ _ _ hi hj _ => (ramping_record hi).1.trans (ramping_record hj).1.symm
  one_per_channel := fun _ _ _ _ hi hj _ _ => (ramping_record hi).1.trans (ramping_record hj).1.symm
  owners_open := by
    intro i r h
    obtain ⟨rfl, rfl⟩ := ramping_record h
    decide +kernel

theorem witness_SessionsStaySound : SessionsSound ramping where
  held := fun h => by cases h
  sound := by
    intro p
    cases p <;> exact
      { opened := fun _ => ⟨100, by decide +kernel⟩
        ended := fun h => absurd rfl h
        next := fun n h => absurd (show none = some n from h) nofun
        quota := by decide +kernel }
  supervisor := fun _ => ⟨.A, fun p => by cases p <;> decide +kernel⟩

/-- The third strike in TRACK and in RELEASING, with no group watching TRIPANY. -/
theorem witness_ThirdStrikeTripsTheChannel :
    Delivers (struck .track) 3 161 161 ∧ ((struck .track).channel 3).target + ((struck .track).channel 3).config.guard < 161 ∧
      2 ≤ ((struck .track).channel 3).strikes ∧ ((struck .track).channel 3).state.settling = true ∧
      ((struck .track).channel 3).holder = some ⟨0, 0⟩ ∧ ((struck .track).slot 0).gen = 0 ∧
      (struck .track).record 0 = some ⟨.B, 3, 120, 2, 0, .granted, 0⟩ ∧
      (∀ g : Fin 4, ((struck .track).group g).inputs.getLsbD 5 = false) ∧ TripUnitSettled (struck .track) ∧
      Delivers windingStruck 3 161 161 ∧ (windingStruck.channel 3).state = .releasing ∧
      2 ≤ (windingStruck.channel 3).strikes ∧ TripUnitSettled windingStruck := by
  repeat' first | apply And.intro | apply Delivers.mk | apply TripUnitSettled.mk | decide +kernel

/-- Polarities that change no input, and polarities that change all five. -/
theorem witness_SetPinsFollowsTheNewPolarities :
    TakenSupervisor (waiting live .A 0x48 [0, 0, 0, 0, 0]) .A ⟨0x48, 7, [0, 0, 0, 0, 0]⟩ 0x48 ∧
      pinOperands [0, 0, 0, 0, 0] = some ⟨Vector.replicate 4 .activeLow, .activeLow⟩ ∧ TripUnitSettled live ∧
      (∀ i : FltPin, live.trip.fltLevel[i] = true) ∧ (∀ i : FltPin, live.input (.flt i) = false) ∧
      live.budget.derateLevel = true ∧ live.budget.derateOn = false ∧
      TakenSupervisor (waiting live .A 0x48 [1, 1, 1, 1, 1]) .A ⟨0x48, 7, [1, 1, 1, 1, 1]⟩ 0x48 ∧
      pinOperands [1, 1, 1, 1, 1] = some ⟨Vector.replicate 4 .activeHigh, .activeHigh⟩ := by
  repeat' first
    | apply And.intro | apply TakenSupervisor.mk | apply TakenOpen.mk | apply TripUnitSettled.mk | decide +kernel

end Sys2Proof.Tests
end

section
/-! SUPPORT. The allocator's answer to ADJUST: that it neither reads nor writes the wire side, one equation for each case
of R12 and R13, and the statement that the executor's step follows them. -/

namespace Sys2Proof.Machine

/-! ### A command whose block leaves the wire side alone -/

/-- The executor's step for a command whose owning block commutes with `onto`: the block's effect on the state before,
and the response to it. -/
theorem State.execute_own_of_onto {α : Type} {decode : List Byte → Option α} {sup : Bool}
    {own : Port → α → State → State × Reply} {s : State} {p : Port} {c : Command} {opcode : Byte} {a : α}
    (h : TakenOpen s p c opcode) (hd : decode c.payload = some a)
    (hn : sup = false ∨ (s.session p).supervisor = true)
    (hown : ∀ s o : State, own p a (s.onto o) = ((own p a s).1.onto o, (own p a s).2)) :
    s.execute opcode decode .openOnly sup own =
      (own p a s).1.answered p c (own p a s).2.status (own p a s).2.payload :=
  State.execute_own h.taken h.opcode hd (.inr h.opened) hn (hown s _) (congrArg Prod.fst (hown s s))

/-! ### TARGET to a loop under a grant (R63) -/

theorem ChannelRecord.retarget_of_granted (r : ChannelRecord) (amount : Nat) (h : r.state.grantedState = true) :
    r.retarget amount =
      if r.state = .track then { r with target := amount, voteDir := .none, voteCount := 0 }
      else { r with target := amount } := by
  unfold ChannelRecord.retarget
  cases hs : r.state with
  | ramp | bisect | limited | held | track => simp [hs, ChannelRecord.clearVotes]
  | idle | releasing | tripped => simp [hs, LoopState.grantedState] at h

/-! ### An ADJUST that has passed the tests of R12, case by case (R12, R13) -/

section Cases
variable (s : State) (i : Fin 24) {r : Claim} {amount : Nat}

theorem State.adjustRecord_of_pending (h : r.state = .pending) :
    s.adjustRecord i r amount = ((s.setAmount i r amount).allocationPass, .done) := by
  simp [State.adjustRecord, h]

theorem State.adjustRecord_of_lt (h : r.state = .granted) (hlt : amount < r.amount) :
    s.adjustRecord i r amount =
      ((((s.setAmount i r amount).lowerGranted (r.amount - amount)).sendTarget r.channel amount).allocationPass,
        .done) := by
  simp [State.adjustRecord, h, hlt]

theorem State.adjustRecord_of_eq (h : r.state = .granted) (he : amount = r.amount) :
    s.adjustRecord i r amount = (s, .done) := by
  simp [State.adjustRecord, h, he]

theorem State.adjustRecord_of_fits (h : r.state = .granted) (hgt : r.amount < amount)
    (hfit : (amount : Int) - r.amount ≤ s.headroom) :
    s.adjustRecord i r amount =
      (((s.setAmount i r amount).raiseGranted (amount - r.amount)).sendTarget r.channel amount, .done) := by
  have hfit' : ((amount - r.amount : Nat) : Int) ≤ s.headroom := by omega
  simp [State.adjustRecord, h, hgt.not_gt, hgt.ne', hfit']

theorem State.adjustRecord_of_short (h : r.state = .granted) (hgt : r.amount < amount)
    (hshort : s.headroom < (amount : Int) - r.amount) :
    s.adjustRecord i r amount = (s, .refuse .short) := by
  have hshort' : ¬ ((amount - r.amount : Nat) : Int) ≤ s.headroom := by omega
  simp [State.adjustRecord, h, hgt.not_gt, hgt.ne', hshort']

end Cases

theorem State.adjustRecord_onto (s o : State) (i : Fin 24) (r : Claim) (amount : Nat) :
    (s.onto o).adjustRecord i r amount = ((s.adjustRecord i r amount).1.onto o, (s.adjustRecord i r amount).2) := by
  cases hr : r.state with
  | pending =>
    rw [State.adjustRecord_of_pending _ i hr, State.adjustRecord_of_pending s i hr, ← State.allocationPass_onto]
    rfl
  | granted =>
    rcases Nat.lt_trichotomy amount r.amount with hlt | heq | hgt
    · rw [State.adjustRecord_of_lt _ i hr hlt, State.adjustRecord_of_lt s i hr hlt, ← State.allocationPass_onto]
      rfl
    · rw [State.adjustRecord_of_eq _ i hr heq, State.adjustRecord_of_eq s i hr heq]
    · rcases lt_or_ge s.headroom ((amount : Int) - r.amount) with hshort | hfit
      · rw [State.adjustRecord_of_short (s.onto o) i hr hgt hshort, State.adjustRecord_of_short s i hr hgt hshort]
      · rw [State.adjustRecord_of_fits (s.onto o) i hr hgt hfit, State.adjustRecord_of_fits s i hr hgt hfit]
        rfl

/-! ### ADJUST at the allocator (R3, R12) -/

theorem adjustOwn_onto (p : Port) (a : AdjustOperands) (s o : State) :
    adjustOwn p a (s.onto o) = ((adjustOwn p a s).1.onto o, (adjustOwn p a s).2) := by
  unfold adjustOwn
  change (match s.resolve a.handle with | none => _ | some r => _) = _
  cases s.resolve a.handle with
  | none => rfl
  | some r =>
    simp only
    change (if r.port ≠ p then _ else if (s.channel r.channel).config.rating < a.amount then _ else _) = _
    split
    · rfl
    · split
      · rfl
      · exact State.adjustRecord_onto s o _ r _

/-- The executor's step for an ADJUST that passes its checks is the allocator's answer, written as the response (R151). -/
theorem exec_adjust {s : State} {p : Port} {c : Command} {a : AdjustOperands} (h : TakenOpen s p c 0x11#8)
    (hd : adjustOperands c.payload = some a) :
    exec .adjust s =
      .next ((adjustOwn p a s).1.answered p c (adjustOwn p a s).2.status (adjustOwn p a s).2.payload) :=
  congrArg Host.Outcome.next (State.execute_own_of_onto h hd (.inl rfl) (adjustOwn_onto p a))

/-- An owner's ADJUST under a live handle comes down to the test of the rating (R12). -/
theorem adjustOwn_of_live {s : State} {p : Port} {a : AdjustOperands} {r : Claim}
    (hgen : (s.slot a.handle.slot).gen = a.handle.gen) (hrec : s.record a.handle.slot = some r) (hport : r.port = p) :
    adjustOwn p a s =
      if (s.channel r.channel).config.rating < a.amount then (s, .refuse .overRating)
      else s.adjustRecord a.handle.slot r a.amount := by
  simp [adjustOwn, State.resolve_eq_some.mpr ⟨hgen, hrec⟩, hport]

/-- Settles O36: the executor's step is the allocator's answer, and each clause is one case of that. -/
theorem adjustFollowsItsTable : Obligations.AdjustFollowsItsTable := by
  intro s p c o r htaken hd hgen hrec hport rating headroom changed retargeted
  have hexec := exec_adjust htaken hd
  rw [adjustOwn_of_live hgen hrec hport] at hexec
  refine ⟨fun hover => ?overRating, fun hle hpend => ?pending, fun hle hgr hst => ?granted⟩
  case overRating => rwa [if_pos hover] at hexec
  case pending => rwa [if_neg hle.not_gt, State.adjustRecord_of_pending s _ hpend] at hexec
  case granted =>
    have hret : (s.channel r.channel).retarget o.amount = retargeted := ChannelRecord.retarget_of_granted _ _ hst
    rw [if_neg hle.not_gt] at hexec
    refine ⟨fun hlt => ?lower, fun heq => ?same, fun hgt hfit => ?raise, fun hgt hshort => ?short⟩
    case lower =>
      rw [State.adjustRecord_of_lt s _ hgr hlt] at hexec
      rwa [← hret]
    case same => rwa [State.adjustRecord_of_eq s _ hgr heq] at hexec
    case raise =>
      rw [State.adjustRecord_of_fits s _ hgr hgt hfit] at hexec
      rwa [← hret]
    case short => rwa [State.adjustRecord_of_short s _ hgr hgt hshort] at hexec

end Sys2Proof.Machine
end

section
/-! SUPPORT. The rail: one equation for each outcome of a rail conversion (R93, R94) and of CLEAR RAIL at the scanner
(R94, R96), and the statement that the steps follow them. -/

namespace Sys2Proof.Machine

/-! ### The refusal of check 4 -/

/-- A supervisor-only command that passes checks 1 to 3 on a port that is not the supervisor (R152 check 4). -/
theorem State.execute_notSupervisor {α : Type} {decode : List Byte → Option α}
    {own : Port → α → State → State × Reply} {s : State} {p : Port} {c : Command} {opcode : Byte} {a : α}
    (h : TakenOpen s p c opcode) (hd : decode c.payload = some a) (hn : (s.session p).supervisor = false) :
    s.execute opcode decode .openOnly true own = s.refused p c .notSupervisor :=
  State.execute_refused h.taken h.opcode (State.carryOut_notSupervisor (s := s.takeFrom p) hd h.opened hn)

/-! ### The rail conversion (R93, R94) -/

/-- A measurement that raises no flag: the limit is off or not exceeded, or the flag is set already. -/
theorem State.railConversion_of_quiet (s : State) (code : Nat)
    (h : (s.scan.railLimit = 0 ∨ scaled s.scan.railGain code ≤ s.scan.railLimit) ∨ s.scan.railFlag = true) :
    s.railConversion code =
      s.setScan { s.scan with railValue := scaled s.scan.railGain code, position := 13 } := by
  refine if_neg fun ⟨hon, habove, hclear⟩ => ?_
  rcases h with (hoff | hle) | hset
  · exact hon.ne' hoff
  · exact habove.not_ge hle
  · simp [hset] at hclear

/-- A measurement above a limit in force, with the flag clear: the flag is set and RAIL rises. -/
theorem State.railConversion_of_above (s : State) (code : Nat) (hon : 0 < s.scan.railLimit)
    (habove : s.scan.railLimit < scaled s.scan.railGain code) (hclear : s.scan.railFlag = false) :
    s.railConversion code =
      (s.setScan { s.scan with
        railValue := scaled s.scan.railGain code, position := 13, railFlag := true }).inputEvent .rail true :=
  if_pos ⟨hon, habove, hclear⟩

theorem exec_railConversionEnd (input : Int) {s : State} (h : s.resetHeld = false) :
    exec (.railConversionEnd input) s = .next (s.railConversion (convert input)) := by
  change execRailConversionEnd input s = _
  simp [execRailConversionEnd, h]

/-! ### CLEAR RAIL at the scanner (R94, R96) -/

section ClearRail
variable {s : State} (p : Port) (u : Unit)

theorem clearRailOwn_of_above (hon : 0 < s.scan.railLimit) (habove : s.scan.railLimit < s.scan.railValue) :
    clearRailOwn p u s = (s, .refuse .stillHigh) :=
  if_pos ⟨hon, habove⟩

theorem clearRailOwn_of_not_above (h : s.scan.railLimit = 0 ∨ s.scan.railValue ≤ s.scan.railLimit) :
    clearRailOwn p u s =
      if s.scan.railFlag then ((s.setScan { s.scan with railFlag := false }).inputEvent .rail false, .done)
      else (s, .done) :=
  if_neg fun ⟨hon, habove⟩ => h.elim hon.ne' habove.not_ge

theorem clearRailOwn_onto (s o : State) :
    clearRailOwn p u (s.onto o) = ((clearRailOwn p u s).1.onto o, (clearRailOwn p u s).2) := by
  by_cases habove : 0 < s.scan.railLimit ∧ s.scan.railLimit < s.scan.railValue
  · rw [clearRailOwn_of_above (s := s.onto o) p u habove.1 habove.2, clearRailOwn_of_above p u habove.1 habove.2]
  · have hlow : s.scan.railLimit = 0 ∨ s.scan.railValue ≤ s.scan.railLimit := by omega
    rw [clearRailOwn_of_not_above (s := s.onto o) p u hlow, clearRailOwn_of_not_above p u hlow]
    change (if s.scan.railFlag then _ else _) = _
    split
    · rw [← State.inputEvent_onto]
      rfl
    · rfl

end ClearRail

/-- The executor's step for a supervisor's CLEAR RAIL is the scanner's answer, written as the response (R151). -/
theorem exec_clearRail {s : State} {p : Port} {c : Command} (h : TakenOpen s p c 0x45#8)
    (hd : noOperands c.payload = some ()) (hsup : (s.session p).supervisor = true) :
    exec .clearRail s =
      .next ((clearRailOwn p () s).1.answered p c (clearRailOwn p () s).2.status (clearRailOwn p () s).2.payload) :=
  congrArg Host.Outcome.next (State.execute_own_of_onto h hd (.inr hsup) (clearRailOwn_onto p ()))

/-- Settles O55: each clause is one case of the rail conversion or of the scanner's answer to CLEAR RAIL. -/
theorem railFlagFollowsTheLimit : Obligations.RailFlagFollowsTheLimit := by
  intro s
  refine ⟨fun input hheld => ⟨fun hquiet => ?quiet, fun hon habove hclear => ?above⟩,
    fun p c htaken hempty => ?clearRail⟩
  case quiet =>
    rw [exec_railConversionEnd input hheld, State.railConversion_of_quiet s (convert input) hquiet]
    rfl
  case above =>
    rw [exec_railConversionEnd input hheld, State.railConversion_of_above s (convert input) hon habove hclear]
    rfl
  case clearRail =>
    have hd : noOperands c.payload = some () := by rw [hempty]; rfl
    refine ⟨fun hsup => ?notSupervisor, fun hsup hon habove => ?stillHigh,
      fun hsup hlow => ⟨fun hclear => ?alreadyClear, fun hset => ?cleared⟩⟩
    case notSupervisor => exact congrArg Host.Outcome.next (State.execute_notSupervisor htaken hd hsup)
    case stillHigh =>
      rw [exec_clearRail htaken hd hsup, clearRailOwn_of_above p () hon habove]
      rfl
    case alreadyClear =>
      rw [exec_clearRail htaken hd hsup, clearRailOwn_of_not_above p () hlow, hclear]
      rfl
    case cleared =>
      rw [exec_clearRail htaken hd hsup, clearRailOwn_of_not_above p () hlow, hset]
      rfl

end Sys2Proof.Machine
end

section
/-! SUPPORT. The CRC-8 of R145: the model's eight shifts as an iterate of the rule's shift, the running value over the
worked bytes, and the statement that both frame kinds follow them. -/

namespace Sys2Proof.Machine

/-! ### The eight shifts -/

/-- The bit shifted out is bit 7. -/
theorem crcShift_eq (v : Byte) :
    crcShift v = if v.getLsbD 7 then (v <<< 1) ^^^ 0x07#8 else v <<< 1 := by
  rw [crcShift, BitVec.msb_eq_getLsbD_last]

theorem crcByte_eq_iterate (v b : Byte) : crcByte v b = crcShift^[8] (v ^^^ b) := rfl

/-! ### The worked frame -/

theorem crc8_worked_opcode : crc8 [0x12#8] = 0x8D#8 := by decide

theorem crc8_worked_tag : crc8 [0x12#8, 0x34#8] = 0x26#8 :=
  calc crc8 [0x12#8, 0x34#8] = crcByte (crc8 [0x12#8]) 0x34#8 := crc8_concat [0x12#8] 0x34#8
    _ = crcByte 0x8D#8 0x34#8 := by rw [crc8_worked_opcode]
    _ = 0x26#8 := by decide

theorem crc8_worked_length : crc8 [0x12#8, 0x34#8, 0x00#8] = 0xF2#8 :=
  calc crc8 [0x12#8, 0x34#8, 0x00#8] = crcByte (crc8 [0x12#8, 0x34#8]) 0x00#8 := crc8_concat [0x12#8, 0x34#8] 0x00#8
    _ = crcByte 0x26#8 0x00#8 := by rw [crc8_worked_tag]
    _ = 0xF2#8 := by decide

/-! ### Whole frames -/

/-- A run of bytes followed by its own CRC-8, as a whole good frame is, brings the running value to 0. -/
theorem crc8_concat_self (bytes : List Byte) : crc8 (bytes ++ [crc8 bytes]) = 0x00#8 := by
  rw [crc8_concat, crcByte_self]

/-- The bytes of a response's frame, with the status numbered as the spec's table has it. -/
theorem Response.frame_eq_concat_crc8 (r : Response) :
    r.frame = ([statusNumber r.status, r.tag, r.opcode, BitVec.ofNat 8 r.payload.length] ++ r.payload) ++
      [crc8 ([statusNumber r.status, r.tag, r.opcode, BitVec.ofNat 8 r.payload.length] ++ r.payload)] := by
  rw [← Status.code_eq]
  rfl

/-- Settles O16: each byte is taken in by eight of the rule's shifts, the worked bytes are run one after another, and
both frame kinds end in the CRC-8 of the bytes before it. -/
theorem crcFollowsItsPolynomial : Obligations.CrcFollowsItsPolynomial := by
  refine ⟨crc8_nil, fun bytes b => ?eightShifts, crc8_worked_opcode, crc8_worked_tag, crc8_worked_length, ?workedFrame,
    crc8_concat_self, fun c => ⟨_, rfl, rfl⟩, fun r => ⟨_, r.frame_eq_concat_crc8, rfl⟩⟩
  case eightShifts => rw [crc8_concat, crcByte_eq_iterate, funext crcShift_eq]
  case workedFrame => exact congrArg (fun crc => [0xC5#8, 0x12#8, 0x34#8, 0x00#8, crc]) crc8_worked_length

end Sys2Proof.Machine
end

section
/-! SUPPORT. The drive modulators of R171: what one slot start does, what so many slots accumulate, and the high time of a
whole frame. The account is kept in units of the accumulator: each plain slot leaves its sum standing, each extended slot
pays 64 of it back. -/

namespace Sys2Proof.Machine

/-! ### The pin -/

theorem State.drvPin_eq_true_iff {s : State} (h : s.resetHeld = false) (c : Channel) (clock : Nat) :
    s.drvPin c clock = true ↔ clock < (s.modulators[c]).high := by
  simp [State.drvPin, h]

/-! ### One slot start -/

theorem Modulator.startSlot_extended {x : Modulator} (h : 64 ≤ x.acc + x.level % 64) :
    x.startSlot = { x with acc := x.acc + x.level % 64 - 64, high := x.level / 64 + 1 } := if_pos h

theorem Modulator.startSlot_plain {x : Modulator} (h : ¬ 64 ≤ x.acc + x.level % 64) :
    x.startSlot = { x with acc := x.acc + x.level % 64, high := x.level / 64 } := if_neg h

/-- What a slot start can do: a plain slot keeps the whole sum, an extended one pays 64 of it for one more clock. -/
theorem Modulator.startSlot_cases (x : Modulator) :
    x.startSlot.level = x.level ∧
      (x.startSlot.high = x.level / 64 ∧ x.startSlot.acc = x.acc + x.level % 64 ∧ x.startSlot.acc < 64 ∨
        x.startSlot.high = x.level / 64 + 1 ∧ x.startSlot.acc + 64 = x.acc + x.level % 64) := by
  by_cases h : 64 ≤ x.acc + x.level % 64
  · rw [startSlot_extended h]
    exact ⟨rfl, .inr ⟨rfl, Nat.sub_add_cancel h⟩⟩
  · rw [startSlot_plain h]
    exact ⟨rfl, .inl ⟨rfl, rfl, Nat.lt_of_not_le h⟩⟩

theorem Modulator.startSlot_acc_lt {x : Modulator} (h : x.acc < 64) : x.startSlot.acc < 64 := by
  obtain ⟨-, ⟨-, -, hlt⟩ | ⟨-, hacc⟩⟩ := x.startSlot_cases
  · exact hlt
  · have hresidue : x.level % 64 < 64 := Nat.mod_lt _ (by decide)
    omega

/-! ### So many slots -/

@[simp] theorem Modulator.after_level (x : Modulator) (n : Nat) : (x.after n).level = x.level := by
  induction n with
  | zero => rfl
  | succ n ih => exact (x.after n).startSlot_cases.1.trans ih

theorem Modulator.after_acc_lt {x : Modulator} (h : x.acc < 64) (n : Nat) : (x.after n).acc < 64 := by
  induction n with
  | zero => exact h
  | succ n ih => exact startSlot_acc_lt ih

/-- The slot that follows the first `n`, in terms of the level the modulator started with. -/
theorem Modulator.after_succ_cases (x : Modulator) (n : Nat) :
    (x.after (n + 1)).high = x.level / 64 ∧ (x.after (n + 1)).acc = (x.after n).acc + x.level % 64 ∨
      (x.after (n + 1)).high = x.level / 64 + 1 ∧ (x.after (n + 1)).acc + 64 = (x.after n).acc + x.level % 64 := by
  obtain ⟨-, h⟩ := (x.after n).startSlot_cases
  rw [after_level] at h
  exact h.imp_left fun ⟨hhigh, hacc, _⟩ => ⟨hhigh, hacc⟩

theorem Modulator.extendedSlots_succ_plain {x : Modulator} {n : Nat} (h : (x.after (n + 1)).high = x.level / 64) :
    x.extendedSlots (n + 1) = x.extendedSlots n := by
  simp [extendedSlots, h]

theorem Modulator.extendedSlots_succ_extended {x : Modulator} {n : Nat}
    (h : (x.after (n + 1)).high = x.level / 64 + 1) : x.extendedSlots (n + 1) = x.extendedSlots n + 1 := by
  simp [extendedSlots, h]

/-- The residues received are what stands in the accumulator and the 64 paid for each extended slot. -/
theorem Modulator.after_acc_add_extendedSlots (x : Modulator) (n : Nat) :
    (x.after n).acc + 64 * x.extendedSlots n = x.acc + n * (x.level % 64) := by
  induction n with
  | zero => simp [after, extendedSlots]
  | succ n ih =>
    rw [Nat.succ_mul n]
    obtain ⟨hhigh, hacc⟩ | ⟨hhigh, hacc⟩ := x.after_succ_cases n
    · rw [extendedSlots_succ_plain hhigh]
      omega
    · rw [extendedSlots_succ_extended hhigh]
      omega

/-- Every slot is high for the quotient, and an extended one for one clock more. -/
theorem Modulator.highTime_eq (x : Modulator) (n : Nat) :
    x.highTime n = n * (x.level / 64) + x.extendedSlots n := by
  induction n with
  | zero => simp [highTime, extendedSlots]
  | succ n ih =>
    rw [highTime, ih, Nat.succ_mul n]
    obtain ⟨hhigh, -⟩ | ⟨hhigh, -⟩ := x.after_succ_cases n
    · rw [extendedSlots_succ_plain hhigh, hhigh]
      omega
    · rw [extendedSlots_succ_extended hhigh, hhigh]
      omega

/-! ### A whole frame -/

/-- The frame's 64 residues wrap the accumulator as many times as the residue, since it stands below 64 at both ends. -/
theorem Modulator.extendedSlots_frame {x : Modulator} (h : x.acc < 64) : x.extendedSlots 64 = x.level % 64 := by
  have hend : (x.after 64).acc < 64 := after_acc_lt h 64
  have haccount := x.after_acc_add_extendedSlots 64
  omega

theorem Modulator.highTime_frame {x : Modulator} (h : x.acc < 64) : x.highTime 64 = x.level :=
  calc x.highTime 64 = 64 * (x.level / 64) + x.extendedSlots 64 := x.highTime_eq 64
    _ = 64 * (x.level / 64) + x.level % 64 := by rw [extendedSlots_frame h]
    _ = x.level := Nat.div_add_mod x.level 64

theorem Modulator.after_succ_high (x : Modulator) (n : Nat) :
    (x.after (n + 1)).high = x.level / 64 ∨ (x.after (n + 1)).high = x.level / 64 + 1 :=
  (x.after_succ_cases n).imp And.left And.left

/-- No high time is longer than its slot, as the quotient of a level is at most 63. -/
theorem Modulator.after_succ_high_le {x : Modulator} (h : x.level ≤ 4095) (n : Nat) : (x.after (n + 1)).high ≤ 64 := by
  have hquotient : x.level / 64 ≤ 63 := Nat.div_le_div_right h
  obtain hhigh | hhigh := x.after_succ_high n <;> omega

/-- Settles O60: over a frame the accumulator's account balances only with as many extended slots as the residue, and each
of these adds its one clock to the 64 quotients. -/
theorem frameHighTimeEqualsTheLevel : Obligations.FrameHighTimeEqualsTheLevel :=
  ⟨fun _ => rfl, fun _ c clock hreset => State.drvPin_eq_true_iff hreset c clock, fun x hacc hlevel =>
    ⟨Modulator.highTime_frame hacc, Modulator.extendedSlots_frame hacc, x.after_level 64, fun n =>
      ⟨Modulator.after_acc_lt hacc n, x.after_succ_high n, Modulator.after_succ_high_le hlevel n⟩⟩⟩

end Sys2Proof.Machine
end

section
/-! SUPPORT. The end of a session: what its reclaim frees before the pass (R17), and that the time remaining, which the last
tick of a lease has brought to 0, is read by none of its parts (R123, R124). -/

namespace Sys2Proof.Machine

/-! ### The records that a reclaim frees -/

/-- The records of a port freed, one slot after another, as a reclaim frees them before its pass (R17). -/
def State.dropsOf (s : State) (p : Port) (l : List (Fin 24)) : State :=
  l.foldl
    (fun t i =>
      match t.record i with
      | some r => if r.port = p then t.dropRecord i else t
      | none => t) s

theorem State.reclaim_eq (s : State) (p : Port) : s.reclaim p = (s.dropsOf p allSlots).allocationPass := rfl

theorem State.dropsOf_cons_of_port {s : State} {p : Port} {i : Fin 24} (l : List (Fin 24))
    (h : (s.record i).map Claim.port = some p) : s.dropsOf p (i :: l) = (s.dropRecord i).dropsOf p l := by
  obtain ⟨r, hr, rfl⟩ := Option.map_eq_some_iff.mp h
  simp [State.dropsOf, hr]

theorem State.dropsOf_cons_of_other {s : State} {p : Port} {i : Fin 24} (l : List (Fin 24))
    (h : (s.record i).map Claim.port ≠ some p) : s.dropsOf p (i :: l) = s.dropsOf p l := by
  unfold State.dropsOf
  rw [List.foldl_cons]
  cases hr : s.record i with
  | none => rfl
  | some r =>
    have hp : r.port ≠ p := fun e => h (by simp [hr, e])
    simp [hp]

/-- What one record's freeing leaves in every slot (R2). -/
theorem State.slot_dropRecord {s : State} {i : Fin 24} {r : Claim} (hr : s.record i = some r) (j : Fin 24) :
    (s.dropRecord i).slot j = if j = i then ⟨(s.slot i).gen + 1#8, none⟩ else s.slot j := by
  split
  · next h => rw [h, State.slot_dropRecord_self s i r hr]
  · next h => exact State.slot_dropRecord_ne s h

/-- What a property needs for these freeings to keep it: that freeing one record of the port keeps it. -/
theorem State.dropsOf_induction {P : State → Prop} (p : Port)
    (drop : ∀ s i r, P s → s.record i = some r → r.port = p → P (s.dropRecord i)) (s : State) (l : List (Fin 24))
    (h : P s) : P (s.dropsOf p l) := by
  induction l generalizing s with
  | nil => exact h
  | cons i rest ih =>
    by_cases hp : (s.record i).map Claim.port = some p
    · obtain ⟨r, hr, hrp⟩ := Option.map_eq_some_iff.mp hp
      rw [State.dropsOf_cons_of_port rest hp]
      exact ih _ (drop s i r h hr hrp)
    · rw [State.dropsOf_cons_of_other rest hp]
      exact ih _ h

/-- Each slot of the list that held a record of the port is free at its next generation, and no other slot moves. -/
theorem State.slot_dropsOf (s : State) (p : Port) (l : List (Fin 24)) (i : Fin 24) :
    (s.dropsOf p l).slot i =
      if i ∈ l ∧ (s.record i).map Claim.port = some p then ⟨(s.slot i).gen + 1#8, none⟩ else s.slot i := by
  induction l generalizing s with
  | nil => simp [State.dropsOf]
  | cons j rest ih =>
    by_cases hp : (s.record j).map Claim.port = some p
    · obtain ⟨r, hr, -⟩ := Option.map_eq_some_iff.mp hp
      rw [State.dropsOf_cons_of_port rest hp, ih]
      by_cases hij : i = j
      · subst hij
        simp [State.record, State.slot_dropRecord hr, show ((s.slot i).record.map Claim.port = some p) from hp]
      · simp [State.record, State.slot_dropRecord hr, hij]
    · rw [State.dropsOf_cons_of_other rest hp, ih]
      by_cases hij : i = j
      · subst hij; simp [hp]
      · simp [hij]

/-- After a reclaim no record of the port is left. -/
theorem State.reclaim_port {s : State} {p : Port} {i : Fin 24} {r : Claim} (h : (s.reclaim p).record i = some r) :
    r.port ≠ p := by
  have hs := s.slot_dropsOf p allSlots i
  have hd : ∀ q, (s.dropsOf p allSlots).record i = some q → q.port ≠ p := by
    intro q hq e
    rw [State.record, hs] at hq
    split at hq
    · cases hq
    · next hn => exact hn ⟨mem_allSlots i, by simp [State.record, hq, e]⟩
  rw [State.reclaim_eq] at h
  rcases ((s.dropsOf p allSlots).allocationPass_slot i).2 with hk | ⟨q, hq, -, hk⟩
  · exact hd r (hk ▸ h)
  · rw [hk] at h; cases h; exact hd q hq

/-! ### The time remaining -/

/-- The state with another time remaining of a port's session. -/
def State.withRemaining (s : State) (p : Port) (n : Nat) : State :=
  s.setSession p { s.session p with remaining := n }

section Remaining
variable (s : State) (p : Port) (n : Nat)

theorem State.session_withRemaining (q : Port) :
    (s.withRemaining p n).session q = if q = p then { s.session p with remaining := n } else s.session q :=
  State.session_setSession s p q _

theorem State.isOpen_withRemaining (q : Port) : (s.withRemaining p n).isOpen q = s.isOpen q := by
  unfold State.isOpen
  rw [State.session_withRemaining]
  split
  · next h => rw [h]
  · rfl

theorem State.notify_withRemaining (q : Port) (m : Notice) :
    (s.withRemaining p n).notify q m = (s.notify q m).withRemaining p n := by
  unfold State.notify
  rw [State.isOpen_withRemaining]
  split <;> rfl

theorem State.notifyHolder_withRemaining (k : Kind) (c : Channel) (v : Option Nat) :
    (s.withRemaining p n).notifyHolder k c v = (s.notifyHolder k c v).withRemaining p n := by
  unfold State.notifyHolder
  change (match s.holderPort c with | some q => _ | none => _) = _
  cases s.holderPort c with
  | none => rfl
  | some q => exact State.notify_withRemaining s p n q _

theorem State.sendRelease_withRemaining (c : Channel) (amount : Nat) :
    (s.withRemaining p n).sendRelease c amount = (s.sendRelease c amount).withRemaining p n := by
  unfold State.sendRelease
  change (if (s.channel c).releaseReachesIdle then _ else _) = _
  split <;> rfl

theorem State.dropRecord_withRemaining (i : Fin 24) :
    (s.withRemaining p n).dropRecord i = (s.dropRecord i).withRemaining p n := by
  unfold State.dropRecord
  change (match s.record i with | none => _ | some r => _) = _
  cases s.record i with
  | none => rfl
  | some r =>
    cases h : r.state with
    | pending => simp only [h]; rfl
    | granted =>
      simp only [h]
      exact State.sendRelease_withRemaining ((s.freeSlot i r).lowerGranted r.amount) p n r.channel r.amount

theorem State.grantSlot_withRemaining (i : Fin 24) (r : Claim) :
    (s.withRemaining p n).grantSlot i r = (s.grantSlot i r).withRemaining p n := by
  unfold State.grantSlot
  exact State.notify_withRemaining
    (((s.setSlot i ⟨(s.slot i).gen, some { r with state := .granted }⟩).raiseGranted r.amount).setChannel r.channel _)
    p n _ _

theorem State.walkQueue_withRemaining (l : List (Fin 24)) :
    (s.withRemaining p n).walkQueue l = (s.walkQueue l).withRemaining p n := by
  induction l generalizing s with
  | nil => rfl
  | cons i rest ih =>
    unfold State.walkQueue
    change (match s.record i with | some r => _ | none => _) = _
    cases s.record i with
    | none => exact ih s
    | some r =>
      simp only
      change (if r.state = .pending ∧ s.eligible r = true then
        (if (r.amount : Int) ≤ s.headroom then _ else _) else _) = _
      split
      · split
        · rw [State.grantSlot_withRemaining]; exact ih _
        · rfl
      · exact ih s

theorem State.insertSlot_withRemaining (i : Fin 24) (l : List (Fin 24)) :
    (s.withRemaining p n).insertSlot i l = s.insertSlot i l := by
  induction l with
  | nil => rfl
  | cons j rest ih => unfold State.insertSlot; rw [ih]; rfl

theorem State.inWaitOrder_withRemaining (l : List (Fin 24)) :
    (s.withRemaining p n).inWaitOrder l = s.inWaitOrder l := by
  induction l with
  | nil => rfl
  | cons i rest ih => unfold State.inWaitOrder; rw [ih, State.insertSlot_withRemaining]

theorem State.allocationPass_withRemaining :
    (s.withRemaining p n).allocationPass = s.allocationPass.withRemaining p n := by
  unfold State.allocationPass
  rw [State.walkQueue_withRemaining]
  exact congrArg (fun l => (s.walkQueue l).withRemaining p n) (State.inWaitOrder_withRemaining s p n _)

theorem State.formHold_withRemaining (before after : Vector Group 4) (c : Channel) :
    (s.withRemaining p n).formHold before after c = (s.formHold before after c).withRemaining p n := by
  unfold State.formHold
  change (if holdFormed after c = (s.channel c).hold then _ else _) = _
  split
  · rfl
  · split
    · unfold State.sendHold
      simp only
      change (if (s.channel c).state.settling then _ else if (s.channel c).state = .releasing then _ else _) = _
      split
      · exact State.notifyHolder_withRemaining (s.setChannel c (s.channel c).takeHold) p n _ _ _
      · split <;> rfl
    · unfold State.sendUnhold
      simp only
      change (if (s.channel c).state = .held then _ else _) = _
      split
      · exact State.notifyHolder_withRemaining (s.setChannel c (s.channel c).takeUnhold) p n _ _ _
      · rfl

theorem State.putGroups_withRemaining (after : Vector Group 4) :
    (s.withRemaining p n).putGroups after = (s.putGroups after).withRemaining p n :=
  List.foldl_hom (g₁ := fun t c => t.formHold s.trip.groups after c) (g₂ := fun t c => t.formHold s.trip.groups after c)
    (l := allChannels) (init := s.setTrip { s.trip with groups := after, fault := faultFormed after })
    (fun t : State => t.withRemaining p n) fun t c => State.formHold_withRemaining t p n s.trip.groups after c

theorem State.tripAction_withRemaining (after : Vector Group 4) :
    (s.withRemaining p n).tripAction after = (s.tripAction after).withRemaining p n := by
  unfold State.tripAction
  change (if s.holdEndsWindDown after then _ else _) = _
  split
  · rw [State.putGroups_withRemaining, State.allocationPass_withRemaining]
  · exact State.putGroups_withRemaining s p n after

theorem State.inputEvent_withRemaining (i : TripInput) (v : Bool) :
    (s.withRemaining p n).inputEvent i v = (s.inputEvent i v).withRemaining p n :=
  State.tripAction_withRemaining (s.recordInput i v) p n (s.recordInput i v).settledGroups

theorem State.reclaim_withRemaining (q : Port) : (s.withRemaining p n).reclaim q = (s.reclaim q).withRemaining p n := by
  rw [State.reclaim_eq, State.reclaim_eq, ← State.allocationPass_withRemaining]
  refine congrArg State.allocationPass (List.foldl_hom (fun t : State => t.withRemaining p n) fun t i => ?_)
  change (match t.record i with | some r => _ | none => _) = _
  cases t.record i with
  | none => rfl
  | some r =>
    simp only
    split
    · exact State.dropRecord_withRemaining t p n i
    · rfl

theorem State.clearSoft_withRemaining : (s.withRemaining p n).clearSoft p = (s.clearSoft p).withRemaining p n := by
  have hx : (s.withRemaining p n).session p = { s.session p with remaining := n } := State.session_setSession_self s p _
  have hset : (s.withRemaining p n).setSession p { (s.withRemaining p n).session p with soft := false } =
      (s.setSession p { s.session p with soft := false }).withRemaining p n := by
    simp [State.withRemaining]
  unfold State.clearSoft
  rw [hset, hx]
  split
  · exact State.inputEvent_withRemaining _ p n _ _
  · rfl

/-- The end of a session reads no time remaining. -/
theorem State.endSession_withRemaining (result : SessionState) :
    (s.withRemaining p n).endSession p result = s.endSession p result := by
  unfold State.endSession
  rw [State.reclaim_withRemaining, State.clearSoft_withRemaining]
  simp only [State.withRemaining, State.emptyNotices]
  generalize (s.reclaim p).clearSoft p = u
  simp [State.setNotices, State.setSession, State.session, Session.ended]

theorem State.lapse_withRemaining : (s.withRemaining p n).lapse p = s.lapse p := by
  unfold State.lapse
  rw [State.endSession_withRemaining]

end Remaining

end Sys2Proof.Machine
end

section
/-! SUPPORT. Moves: the small changes of which every command but the resets is made, each with what holds where it is
made. An invariant of the part is then a property that each move keeps (`Moves.keeps`), and what a command can do is said
once, by its decomposition into moves. -/

namespace Sys2Proof.Machine

/-! ### The moves -/

/-- What a run of moves may contain besides the moves that every command may make: a change of a setting, a new claim
record, the consequences of a trip, a change of the budgets or of the DERATE state, and a change of the trip unit or of
what it follows. -/
structure Allowed where
  settings : Prop
  makes : Prop
  trips : Prop
  reforms : Prop
  inputs : Prop

/-- What a port's session record may become. -/
inductive SessionMove (L : Allowed) (s : State) (p : Port) : Session → Prop where
  /-- R110, R111, R113: the soft bit. -/
  | soft (v : Bool) (hL : L.inputs) (h : v = true → (s.session p).state = .opened) :
      SessionMove L s p { s.session p with soft := v }
  /-- R119: a tick that is not the last. -/
  | tick (ho : (s.session p).state = .opened) (h : 2 ≤ (s.session p).remaining) :
      SessionMove L s p { s.session p with remaining := (s.session p).remaining - 1 }
  /-- R120. -/
  | warn (ho : (s.session p).state = .opened) : SessionMove L s p { s.session p with warned := true }
  /-- R118. -/
  | opens (n : Nat) (h : (s.session p).state ≠ .opened) (hn : 1 ≤ n ∧ n ≤ 1000) :
      SessionMove L s p ((s.session p).openWith n)
  /-- R121. -/
  | renews (ho : (s.session p).state = .opened) : SessionMove L s p (s.session p).renewed
  /-- R122. -/
  | preloads (n : Nat) (ho : (s.session p).state = .opened) (hn : 1 ≤ n ∧ n ≤ 1000) :
      SessionMove L s p { s.session p with next := some n }
  /-- R130. -/
  | quota (q : Nat) (f : Fin 4) (hL : L.settings) (hq : q ≤ 24) :
      SessionMove L s p { s.session p with quota := q, floor := f }
  /-- R123 step 4: by then the port has no record, no soft bit and no notice. -/
  | ends (result : SessionState) (h : result ≠ .opened) (hsoft : (s.session p).soft = false)
      (hn : s.noticesOf p = NoticeQueue.reset) (hr : ∀ i r, s.record i = some r → r.port ≠ p) :
      SessionMove L s p ((s.session p).ended result)
  /-- R128: a port reset of a LAPSED session. -/
  | closes (h : (s.session p).state = .lapsed) : SessionMove L s p { s.session p with state := .closed }

/-- What a channel record may become by an action of its own loop alone. -/
inductive ChannelMove (L : Allowed) (s : State) (c : Channel) : ChannelRecord → Prop where
  /-- R53: a measurement that neither trips the channel nor ends its wind-down. -/
  | measures (m : Nat) (owner : Option Port) (ht : ((s.channel c).measure m owner).2 ≠ .tripped)
      (hi : ((s.channel c).measure m owner).2 ≠ .idleReached) :
      ChannelMove L s c ((s.channel c).measure m owner).1
  /-- R79. -/
  | trips (m : Nat) (owner : Option Port) (hL : L.trips) (ht : ((s.channel c).measure m owner).2 = .tripped) :
      ChannelMove L s c ((s.channel c).measure m owner).1
  /-- R83. -/
  | clears (hL : L.inputs) (ht : (s.channel c).state = .tripped) : ChannelMove L s c (s.channel c).clearTrip
  /-- R46. -/
  | loops (o : LoopOperands) (hL : L.settings) : ChannelMove L s c ((s.channel c).setLoop o)
  /-- R47. -/
  | limits (o : LimitsOperands) (hL : L.settings) : ChannelMove L s c ((s.channel c).setLimits o)

/-- One move. -/
inductive Move (L : Allowed) (s : State) : State → Prop where
  /-- The wire side, the executor's pointer, the modulators and the count of free choices. -/
  | wire (ports : PerPort PortState) (pointer : Port) (cause : ResetCause) (modulators : Vector Modulator 12)
      (frameSlot choice : Nat) :
      Move L s { s with ports := ports, pointer := pointer, cause := cause, modulators := modulators,
                        frameSlot := frameSlot, choice := choice }
  | scan (x : Scanner)
      (hs : L.settings ∨ (x.period = s.scan.period ∧ x.pendingPeriod = s.scan.pendingPeriod ∧
        x.railLimit = s.scan.railLimit ∧ x.railGain = s.scan.railGain))
      (hf : L.inputs ∨ x.railFlag = s.scan.railFlag) : Move L s (s.setScan x)
  | trip (x : TripUnit) (hL : L.inputs)
      (hs : L.settings ∨ (x.fltPolarity = s.trip.fltPolarity ∧ ∀ g : Fin 4, x.groups[g].inputs = (s.group g).inputs ∧
        x.groups[g].targets = (s.group g).targets ∧ x.groups[g].mode = (s.group g).mode)) : Move L s (s.setTrip x)
  | hold (before after : Vector Group 4) (c : Channel) (hL : L.inputs) : Move L s (s.formHold before after c)
  | budget (b : Budget) (hL : L.reforms) (hg : b.granted = s.budget.granted) (hr : b.releasing = s.budget.releasing)
      (hs : L.settings ∨ (b.normal = s.budget.normal ∧ b.derated = s.budget.derated ∧
        b.deratePolarity = s.budget.deratePolarity)) : Move L s { s with budget := b }
  | session (p : Port) (x : Session) (h : SessionMove L s p x) : Move L s (s.setSession p x)
  | notice (p : Port) (n : Notice) (h : n.kind ≠ .overflow) : Move L s (s.notify p n)
  | take (p : Port) (n : Notice) (rest : List Notice) (h : (s.noticesOf p).queue = n :: rest) :
      Move L s (s.setNotices p (s.afterTake (s.noticesOf p) rest))
  | empty (p : Port) : Move L s (s.emptyNotices p)
  | channel (c : Channel) (x : ChannelRecord) (h : ChannelMove L s c x) : Move L s (s.setChannel c x)
  /-- R76: a measurement that ends the wind-down. -/
  | idle (c : Channel) (m : Nat) (owner : Option Port) (h : ((s.channel c).measure m owner).2 = .idleReached) :
      Move L s ((s.setChannel c ((s.channel c).measure m owner).1).idleReached c)
  /-- R38: a TRIPPED report that carries no handle. -/
  | unowned (c : Channel) (hL : L.trips) : Move L s (s.idleReached c)
  /-- R37: a TRIPPED report that carries one. -/
  | frees (i : Fin 24) (r : Claim) (hL : L.trips) (hr : s.record i = some r) :
      Move L s (if r.state = .granted then (s.freeSlot i r).lowerGranted r.amount else s.freeSlot i r)
  | make (p : Port) (o : ClaimOperands) (i : Fin 24) (hL : L.makes) (hi : s.record i = none)
      (hs : s.stamp < stampLimit) (hd : s.holdsOn p o.channel = false) (ho : (s.session p).state = .opened) :
      Move L s (s.makeClaim p o i)
  | grant (i : Fin 24) (r : Claim) (hr : s.record i = some r) (hp : r.state = .pending) (he : s.eligible r = true)
      (hh : (r.amount : Int) ≤ s.headroom) : Move L s (s.grantSlot i r)
  | drop (i : Fin 24) (r : Claim) (hr : s.record i = some r) : Move L s (s.dropRecord i)
  | shed (i : Fin 24) (r : Claim) (hr : s.record i = some r) (hg : r.state = .granted) : Move L s (s.shedRecord i r)
  /-- R13: the amount of a PENDING record. -/
  | amount (i : Fin 24) (r : Claim) (a : Nat) (hr : s.record i = some r) (hp : r.state = .pending) :
      Move L s (s.setAmount i r a)
  | lower (i : Fin 24) (r : Claim) (a : Nat) (hr : s.record i = some r) (hg : r.state = .granted) (ha : a < r.amount) :
      Move L s (((s.setAmount i r a).lowerGranted (r.amount - a)).sendTarget r.channel a)
  | raise (i : Fin 24) (r : Claim) (a : Nat) (hr : s.record i = some r) (hg : r.state = .granted) (ha : r.amount < a)
      (hh : ((a - r.amount : Nat) : Int) ≤ s.headroom) :
      Move L s (((s.setAmount i r a).raiseGranted (a - r.amount)).sendTarget r.channel a)
  /-- R19, R41 and R86: RESTART at the allocator and at the loops. -/
  | restart (hL : L.inputs) : Move L s s.restartClaims.restartChannels

/-- A run of moves. -/
abbrev Moves (L : Allowed) : State → State → Prop := Relation.ReflTransGen (Move L)

/-- What every move keeps, a run of them keeps. -/
theorem Moves.keeps {L : Allowed} {P : State → Prop} (move : ∀ s t, P s → Move L s t → P t) {s t : State}
    (h : Moves L s t) (hs : P s) : P t := by
  induction h with
  | refl => exact hs
  | tail _ hm ih => exact move _ _ ih hm

section Operations
variable {L : Allowed} {s t : State}

theorem Move.run (h : Move L s t) : Moves L s t := .single h

theorem Moves.then (h : Moves L s t) {u : State} (h' : Moves L t u) : Moves L s u := Relation.ReflTransGen.trans h h'

/-- A run of operations, each a run of moves, is one. -/
theorem Moves.foldl {α : Type} {f : State → α → State} (h : ∀ t x, Moves L t (f t x)) (l : List α) (s : State) :
    Moves L s (l.foldl f s) := by
  induction l generalizing s with
  | nil => exact .refl
  | cons x rest ih => exact (h s x).then (ih _)

/-! ### Notices and responses -/

theorem Moves.setPort (p : Port) (y : PortState) : Moves L s (s.setPort p y) :=
  (Move.wire _ s.pointer s.cause s.modulators s.frameSlot s.choice).run

theorem Moves.notifyHolder {k : Kind} (hk : k ≠ .overflow) (c : Channel) (v : Option Nat) :
    Moves L s (s.notifyHolder k c v) := by
  unfold State.notifyHolder
  split
  · exact (Move.notice _ _ hk).run
  · exact .refl

theorem Moves.notifyBudget : Moves L s s.notifyBudget :=
  Moves.foldl (fun _ p => (Move.notice p _ (by simp [State.budgetNotice])).run) _ s

/-! ### The allocator -/

theorem Moves.allocationPass : Moves L s s.allocationPass :=
  State.allocationPass_induction (P := Moves L s) (fun _ i r h hr hp he hh => h.tail (.grant i r hr hp he hh)) s .refl

theorem Moves.shed : Moves L s s.shed :=
  State.shed_induction (P := Moves L s) (fun _ i r h hr hg _ => h.tail (.shed i r hr hg)) s .refl

theorem Moves.reclaim (p : Port) : Moves L s (s.reclaim p) :=
  State.reclaim_induction (P := Moves L s) p (fun _ i r h hr _ => h.tail (.drop i r hr))
    (fun _ i r h hr hp he hh => h.tail (.grant i r hr hp he hh)) s .refl

theorem Moves.reformBudget (hL : L.reforms) (mayShed : Bool) : Moves L s (s.reformBudget mayShed) := by
  unfold State.reformBudget
  have formed : Moves L s { s with budget := { s.budget with effective := s.budget.formed } } :=
    (Move.budget (s := s) { s.budget with effective := s.budget.formed } hL rfl rfl (.inr ⟨rfl, rfl, rfl⟩)).run
  have shed : ∀ u : State, Moves L u (if mayShed then u.shed else u) := by
    intro u; split
    · exact Moves.shed
    · exact .refl
  have tell : ∀ u : State, Moves L u (if s.budget.formed = s.budget.effective then u else u.notifyBudget) := by
    intro u; split
    · exact .refl
    · exact Moves.notifyBudget
  exact ((formed.then (shed _)).then (tell _)).then Moves.allocationPass

theorem Moves.derateEvent (hL : L.reforms) (on : Bool) : Moves L s (s.derateEvent on) :=
  (Move.budget { s.budget with derateOn := on } hL rfl rfl (.inr ⟨rfl, rfl, rfl⟩)).run.then (Moves.reformBudget hL on)

/-! ### The trip unit -/

theorem Moves.putGroups (hL : L.inputs) (after : Vector Group 4)
    (h : L.settings ∨ ∀ g : Fin 4, after[g].inputs = (s.group g).inputs ∧ after[g].targets = (s.group g).targets ∧
      after[g].mode = (s.group g).mode) : Moves L s (s.putGroups after) :=
  (Move.trip { s.trip with groups := after, fault := faultFormed after } hL (h.imp_right fun h => ⟨rfl, h⟩)).run.then
    (Moves.foldl (fun _ c => (Move.hold _ after c hL).run) _ _)

theorem Moves.tripAction (hL : L.inputs) (after : Vector Group 4)
    (h : L.settings ∨ ∀ g : Fin 4, after[g].inputs = (s.group g).inputs ∧ after[g].targets = (s.group g).targets ∧
      after[g].mode = (s.group g).mode) : Moves L s (s.tripAction after) := by
  unfold State.tripAction
  split
  · exact (Moves.putGroups hL after h).then Moves.allocationPass
  · exact Moves.putGroups hL after h

theorem State.settledGroups_config (s : State) (g : Fin 4) :
    s.settledGroups[g].inputs = (s.group g).inputs ∧ s.settledGroups[g].targets = (s.group g).targets ∧
      s.settledGroups[g].mode = (s.group g).mode := by
  rw [State.group_settledGroups]; exact ⟨rfl, rfl, rfl⟩

theorem Moves.recordInput (hL : L.inputs) (i : TripInput) (v : Bool) : Moves L s (s.recordInput i v) :=
  (Move.trip (s := s) { s.trip with inputs := setInput s.trip.inputs i v } hL (.inr ⟨rfl, fun _ => ⟨rfl, rfl, rfl⟩⟩)).run

theorem Moves.inputEvent (hL : L.inputs) (i : TripInput) (v : Bool) : Moves L s (s.inputEvent i v) :=
  (Moves.recordInput hL i v).then (Moves.tripAction hL _ (.inr (s.recordInput i v).settledGroups_config))

theorem Moves.inputEventNoPass (hL : L.inputs) (i : TripInput) (v : Bool) : Moves L s (s.inputEventNoPass i v) :=
  (Moves.recordInput hL i v).then (Moves.putGroups hL _ (.inr (s.recordInput i v).settledGroups_config))

theorem Moves.takePins (hL : L.inputs) (l : List FltPin) : Moves L s (s.takePins l) := by
  induction l generalizing s with
  | nil => exact .refl
  | cons i rest ih => exact (Moves.inputEventNoPass hL (.flt i) _).then ih

theorem Moves.followTripany (hL : L.inputs) : Moves L s s.followTripany := by
  unfold State.followTripany
  split
  · exact .refl
  · exact Moves.inputEvent hL _ _

/-! ### The session table -/

theorem Moves.clearSoft (hL : L.inputs) (p : Port) : Moves L s (s.clearSoft p) := by
  unfold State.clearSoft
  split
  · exact (Move.session p _ (.soft false hL (by simp))).run.then (Moves.inputEvent hL _ _)
  · exact .refl

end Operations

end Sys2Proof.Machine
end

section
/-! SUPPORT. What each command can do, as a run of moves: the operations of the session table, the scanner, the wire and the
owning blocks, and from them `exec_moves`, the inversion of a command but a reset. -/

namespace Sys2Proof.Machine

/-! ### The slots under an input event -/

theorem State.tripAction_slot (s : State) (after : Vector Group 4) (j : Fin 24) :
    ((s.tripAction after).slot j).gen = (s.slot j).gen ∧
      ((s.tripAction after).record j = s.record j ∨
        ∃ r, s.record j = some r ∧ r.state = .pending ∧
          (s.tripAction after).record j = some { r with state := .granted }) := by
  have hput : (s.putGroups after).slot j = s.slot j := by
    rw [State.slot, State.putGroups_frame]; rfl
  unfold State.tripAction
  split
  · have h := (s.putGroups after).allocationPass_slot j
    simp only [State.record, hput] at h ⊢
    exact h
  · exact ⟨by rw [hput], .inl (by simp only [State.record, hput])⟩

/-- An input event frees no record and makes none: each slot keeps its generation and its record up to the claim state. -/
theorem State.inputEvent_slot (s : State) (i : TripInput) (v : Bool) (j : Fin 24) :
    ((s.inputEvent i v).slot j).gen = (s.slot j).gen ∧
      ((s.inputEvent i v).record j = s.record j ∨
        ∃ r, s.record j = some r ∧ r.state = .pending ∧
          (s.inputEvent i v).record j = some { r with state := .granted }) :=
  (s.recordInput i v).tripAction_slot (s.recordInput i v).settledGroups j

/-- What the end of a session leaves before its last parts: no record of the port, and no soft bit. -/
theorem State.clearSoft_port {s : State} {p q : Port} (h : ∀ i r, s.record i = some r → r.port ≠ q) (i : Fin 24)
    (r : Claim) (hr : (s.clearSoft p).record i = some r) : r.port ≠ q := by
  unfold State.clearSoft at hr
  split at hr
  · rcases (State.inputEvent_slot (s.setSession p { s.session p with soft := false }) (.soft p) false i).2
      with hk | ⟨x, hx, -, hk⟩
    · exact h i r (hk ▸ hr)
    · rw [hk] at hr; cases hr; exact h i x hx
  · exact h i r hr

theorem State.clearSoft_soft (s : State) (p : Port) : ((s.clearSoft p).session p).soft = false := by
  rw [State.session, State.clearSoft_frame]
  simp

section Operations
variable {L : Allowed} {s t : State}

/-! ### Sessions -/

theorem Moves.endSession (hL : L.inputs) (p : Port) {result : SessionState} (hr : result ≠ .opened) :
    Moves L s (s.endSession p result) := by
  refine ((Moves.reclaim p).then (Moves.clearSoft hL p)).then (.trans (Move.empty p).run (Move.session p _ ?_).run)
  refine .ends result hr (State.clearSoft_soft _ p) (State.noticesOf_setNotices_self _ p _) fun i r hi => ?_
  exact State.clearSoft_port (fun j q hj => State.reclaim_port hj) i r hi

theorem Moves.lapse (hL : L.inputs) (p : Port) : Moves L s (s.lapse p) := by
  unfold State.lapse
  refine Moves.then (Moves.endSession hL p (result := .lapsed) (by decide)) ?_
  unfold State.discardWaiting
  split
  · exact .refl
  · exact (Moves.setPort p _).then (Moves.setPort p _)

theorem Moves.tick (hL : L.inputs) (p : Port) (ho : (s.session p).state = .opened) : Moves L s (s.tick p) := by
  rw [State.tick_eq]
  split
  · exact (State.lapse_withRemaining s p _).symm ▸ Moves.lapse hL p
  · next hleft =>
    have count : Moves L s (s.setSession p { s.session p with remaining := (s.session p).remaining - 1 }) :=
      (Move.session p _ (.tick ho (by omega))).run
    split
    · refine count.then (.trans (Move.session p _ (.warn ?_)).run (Move.notice p _ (by simp [State.leaseWarnNotice])).run)
      rw [State.session_setSession_self]; exact ho
    · exact count

theorem Moves.resetPort (hL : L.inputs) (p : Port) : Moves L s (s.resetPort p) := by
  unfold State.resetPort
  refine Moves.then (Moves.setPort p (s.port p).emptied) ?_
  simp only
  split
  · exact Moves.endSession hL p (by decide)
  · next h => exact (Move.empty p).run.tail (.session p _ (.closes h))
  · exact .refl

/-! ### Transactions -/

theorem Moves.clockBytes (p : Port) (bytes : List Byte) : Moves L s (s.clockBytes p bytes) := by
  rw [State.clockBytes_frame]
  exact Moves.setPort p _

theorem Moves.select (p : Port) : Moves L s (s.select p) := by
  unfold State.select
  split
  · exact .refl
  · exact Moves.setPort p _

theorem Moves.deselect (hL : L.inputs) (p : Port) : Moves L s (s.deselect p) := by
  unfold State.deselect State.takeReceived
  split
  · exact .refl
  · refine Moves.then (Moves.setPort p { s.port p with transaction := none }) ?_
    split
    · exact .refl
    · split
      · rw [State.receiveFrame_eq]; exact Moves.setPort p _
      · split
        · exact Moves.resetPort hL p
        · exact .refl

theorem Moves.stretch (hL : L.inputs) (p : Port) (code : Byte) (part : Stretch) (bytes : List Byte) :
    Moves L s (s.stretch p code part bytes) := by
  unfold State.stretch State.runStretch
  split
  · have selected : Moves L s (if part.selects then s.select p else s) := by
      split
      · exact Moves.select p
      · exact .refl
    have ended : ∀ u : State, Moves L u (if part.deselects then u.deselect p else u) := by
      intro u; split
      · exact Moves.deselect hL p
      · exact .refl
    exact (selected.then (Moves.clockBytes p bytes)).then (ended _)
  · exact .refl

/-! ### Measurements -/

/-- The scanner's state but for its settings and the rail flag. -/
theorem Moves.setScan {x : Scanner} (hs : x.period = s.scan.period ∧ x.pendingPeriod = s.scan.pendingPeriod ∧
    x.railLimit = s.scan.railLimit ∧ x.railGain = s.scan.railGain) (hf : x.railFlag = s.scan.railFlag) :
    Moves L s (s.setScan x) := (Move.scan x (.inr hs) (.inr hf)).run

theorem Moves.setFlag (hL : L.inputs) (v : Bool) : Moves L s (s.setScan { s.scan with railFlag := v }) :=
  (Move.scan { s.scan with railFlag := v } (.inr ⟨rfl, rfl, rfl, rfl⟩) (.inl hL)).run

theorem Moves.reportTrip (hL : L.trips) (b : ChannelRecord) (c : Channel) (m : Nat) :
    Moves L s (s.reportTrip b c m) := by
  unfold State.reportTrip
  split
  · exact (Move.unowned c hL).run.then Moves.allocationPass
  · split
    · next h _ =>
      unfold State.tripReport
      split
      · exact Moves.allocationPass
      · next r hr =>
        refine .trans (Move.frees h.slot r hL (State.resolve_eq_some.mp hr).2).run ?_
        exact (Move.notice r.port _ (by simp [State.claimNotice])).run.then Moves.allocationPass
    · exact Moves.allocationPass

theorem Moves.afterTrip (hL : L.trips) (hi : L.inputs) (b : ChannelRecord) (c : Channel) (m : Nat) :
    Moves L s (s.afterTrip b c m) := by
  unfold State.afterTrip
  split
  · refine .trans (Move.wire s.ports s.pointer s.cause s.modulators s.frameSlot (s.choice + 1)).run ?_
    simp only
    split
    · exact (Moves.followTripany hi).then (Moves.reportTrip hL b c m)
    · exact (Moves.reportTrip hL b c m).then (Moves.followTripany hi)
  · exact (Moves.reportTrip hL b c m).then (Moves.followTripany hi)

theorem Moves.measurement (c : Channel) (m : Nat)
    (hL : ((s.channel c).measure m (s.holderPort c)).2 = .tripped → L.trips ∧ L.inputs) :
    Moves L s (s.measurement c m) := by
  have plain (h : ((s.channel c).measure m (s.holderPort c)).2 ≠ .tripped)
      (h' : ((s.channel c).measure m (s.holderPort c)).2 ≠ .idleReached) :
      Moves L s (s.setChannel c ((s.channel c).measure m (s.holderPort c)).1) :=
    (Move.channel c _ (.measures m _ h h')).run
  unfold State.measurement
  simp only
  split
  · next h => exact plain (by simp [h]) (by simp [h])
  · next h => exact (plain (by simp [h]) (by simp [h])).then (Moves.notifyHolder (by decide) c _)
  · next h => exact (plain (by simp [h]) (by simp [h])).then (Moves.notifyHolder (by decide) c _)
  · next h => exact (Move.idle c m _ h).run.then Moves.allocationPass
  · next h =>
    exact (Move.channel c _ (.trips m _ (hL h).1 h)).run.then (Moves.afterTrip (hL h).1 (hL h).2 _ c m)

theorem Moves.channelConversion (hL : L.trips) (hi : L.inputs) (c : Channel) (code : Nat) :
    Moves L s (s.channelConversion c code) := by
  have window : Moves L s (s.windowAdd c code) := Moves.setScan ⟨rfl, rfl, rfl, rfl⟩ rfl
  unfold State.channelConversion
  simp only
  split
  · exact window.then (Moves.measurement c _ fun _ => ⟨hL, hi⟩)
  · exact window

theorem Moves.railConversion (hL : L.inputs) (code : Nat) : Moves L s (s.railConversion code) := by
  unfold State.railConversion
  simp only
  have measured : Moves L s (s.setScan { s.scan with railValue := scaled s.scan.railGain code, position := 13 }) :=
    Moves.setScan ⟨rfl, rfl, rfl, rfl⟩ rfl
  split
  · exact (measured.then (Moves.setFlag hL true)).then (Moves.inputEvent hL .rail true)
  · exact measured

/-! ### Pins -/

theorem Moves.derateLevel (hL : L.reforms) (level : Bool) : Moves L s (s.derateLevel level) := by
  unfold State.derateLevel
  refine Moves.then (Move.budget { s.budget with derateLevel := level } hL rfl rfl (.inr ⟨rfl, rfl, rfl⟩)).run ?_
  simp only
  split
  · exact .refl
  · exact Moves.derateEvent hL _

theorem Moves.fltLevel (hL : L.inputs) (pin : FltPin) (level : Bool) : Moves L s (s.fltLevel pin level) := by
  unfold State.fltLevel
  refine Moves.then (Move.trip { s.trip with fltLevel := s.trip.fltLevel.set pin level } hL
    (.inr ⟨rfl, fun _ => ⟨rfl, rfl, rfl⟩⟩)).run ?_
  simp only
  split
  · exact .refl
  · exact Moves.inputEvent hL _ _

/-! ### The owning blocks -/

/-- A claim that passes the allocator's tests takes a free slot, and none of its port's records names the channel (R8). -/
theorem State.admitClaim_ok {s : State} {p : Port} {o : ClaimOperands} {i : Fin 24} (h : s.admitClaim p o = .ok i) :
    s.record i = none ∧ s.stamp < stampLimit ∧ s.holdsOn p o.channel = false := by
  unfold State.admitClaim at h
  split at h
  · cases h
  split at h
  · cases h
  split at h
  · cases h
  split at h
  · cases h
  split at h
  · cases h
  next hd =>
    split at h
    · cases h
    split at h
    · next hf =>
      split at h
      · next hs =>
        cases h
        exact ⟨by simpa using List.find?_some hf, hs, by simpa using hd⟩
      · cases h
    · cases h

theorem Moves.claimOwn (hL : L.makes) (p : Port) (o : ClaimOperands) (ho : (s.session p).state = .opened) :
    Moves L s (claimOwn p o s).1 := by
  unfold Machine.claimOwn
  split
  · exact .refl
  · next i h =>
    obtain ⟨hi, hs, hd⟩ := State.admitClaim_ok h
    exact (Move.make p o i hL hi hs hd ho).run.then Moves.allocationPass

theorem Moves.adjustOwn (p : Port) (o : AdjustOperands) : Moves L s (adjustOwn p o s).1 := by
  unfold Machine.adjustOwn
  split
  · exact .refl
  · next r hr =>
    have hrec : s.record o.handle.slot = some r := (State.resolve_eq_some.mp hr).2
    split
    · exact .refl
    · split
      · exact .refl
      · cases hst : r.state with
        | pending =>
          rw [State.adjustRecord_of_pending s _ hst]
          exact (Move.amount _ r _ hrec hst).run.then Moves.allocationPass
        | granted =>
          rcases Nat.lt_trichotomy o.amount r.amount with hlt | heq | hgt
          · rw [State.adjustRecord_of_lt s _ hst hlt]
            exact (Move.lower _ r _ hrec hst hlt).run.then Moves.allocationPass
          · rw [State.adjustRecord_of_eq s _ hst heq]
          · rcases lt_or_ge s.headroom ((o.amount : Int) - r.amount) with hshort | hfit
            · rw [State.adjustRecord_of_short s _ hst hgt hshort]
            · rw [State.adjustRecord_of_fits s _ hst hgt hfit]
              exact (Move.raise _ r _ hrec hst hgt (by omega)).run

theorem Moves.releaseOwn (p : Port) (h : Handle) : Moves L s (releaseOwn p h s).1 := by
  unfold Machine.releaseOwn
  split
  · exact .refl
  · next r hr =>
    split
    · exact .refl
    · exact (Move.drop _ r (State.resolve_eq_some.mp hr).2).run.then Moves.allocationPass

theorem Moves.revokeOwn (p : Port) (h : Handle) : Moves L s (revokeOwn p h s).1 := by
  unfold Machine.revokeOwn
  split
  · exact .refl
  · next r hr =>
    refine .trans (Move.drop _ r (State.resolve_eq_some.mp hr).2).run ?_
    exact (Move.notice _ _ (by simp [State.claimNotice])).run.then Moves.allocationPass

theorem queryClaimOwn_state (p : Port) (h : Handle) : (queryClaimOwn p h s).1 = s := by
  unfold queryClaimOwn
  split
  · rfl
  · split <;> rfl

theorem Moves.takeNoticeOwn (p : Port) (u : Unit) : Moves L s (takeNoticeOwn p u s).1 := by
  unfold Machine.takeNoticeOwn
  split
  · exact .refl
  · next n rest h => exact (Move.take p n rest h).run

theorem Moves.openOwn (p : Port) (n : Nat) (hn : 1 ≤ n ∧ n ≤ 1000) : Moves L s (openOwn p n s).1 := by
  unfold Machine.openOwn
  split
  · exact .refl
  · next h => exact (Move.session p _ (.opens n (by simpa [State.isOpen] using h) hn)).run

theorem Moves.evictOwn (hL : L.inputs) (p target : Port) : Moves L s (evictOwn p target s).1 := by
  unfold Machine.evictOwn
  split
  · exact .refl
  · split
    · exact Moves.lapse hL target
    · exact .refl

theorem Moves.clearTripOwn (hL : L.inputs) (p : Port) (c : Channel) : Moves L s (clearTripOwn p c s).1 := by
  unfold Machine.clearTripOwn
  simp only
  split
  · exact .refl
  · next ht =>
    split
    · exact .refl
    · refine .trans (Move.channel c _ (.clears hL (by simpa using ht))).run ?_
      exact (Moves.followTripany hL).then Moves.allocationPass

theorem Moves.softTripOwn (hL : L.inputs) (p : Port) (v : Bool) (ho : (s.session p).state = .opened) :
    Moves L s (softTripOwn p v s).1 := by
  unfold Machine.softTripOwn
  split
  · exact .refl
  · exact (Move.session p _ (.soft v hL fun _ => ho)).run.then (Moves.inputEvent hL _ _)

theorem Moves.clearGroupOwn (hL : L.inputs) (p : Port) (g : Fin 4) : Moves L s (clearGroupOwn p g s).1 := by
  unfold Machine.clearGroupOwn
  split
  · exact .refl
  · exact .refl
  · refine Moves.tripAction hL _ (.inr fun k => ?_)
    by_cases h : k = g
    · subst h; simp
    · have hne : ¬ (g.val = k.val) := fun e => h (Fin.ext e.symm)
      simp [hne, State.group]

theorem Moves.clearRailOwn (hL : L.inputs) (p : Port) (u : Unit) : Moves L s (clearRailOwn p u s).1 := by
  unfold Machine.clearRailOwn
  split
  · exact .refl
  · split
    · exact (Moves.setFlag hL false).then (Moves.inputEvent hL .rail false)
    · exact .refl

theorem Moves.setChannelLoopOwn (hL : L.settings) (p : Port) (o : LoopOperands) :
    Moves L s (setChannelLoopOwn p o s).1 := by
  unfold Machine.setChannelLoopOwn
  simp only
  split
  · exact (Move.channel _ _ (.loops o hL)).run.tail (.scan _ (.inr ⟨rfl, rfl, rfl, rfl⟩) (.inr rfl))
  · exact .refl

theorem Moves.setPinsOwn (hL : L.settings) (hr : L.reforms) (hi : L.inputs) (p : Port) (o : PinOperands) :
    Moves L s (setPinsOwn p o s).1 := by
  have stored : Moves L s (s.storePolarities o) :=
    .trans (Move.trip { s.trip with fltPolarity := o.flt } hi (.inl hL)).run
      (Move.budget (s := s.setTrip { s.trip with fltPolarity := o.flt }) { s.budget with deratePolarity := o.derate }
        hr rfl rfl (.inl hL)).run
  have counted : Moves L (s.storePolarities o) (s.storePolarities o).countPinChoice := by
    unfold State.countPinChoice
    split
    · exact (Move.wire _ _ _ _ _ _).run
    · exact .refl
  have taken := (stored.then counted).then
    (Moves.takePins hi (pinOrder (s.storePolarities o).choice (s.storePolarities o).changedPins))
  unfold Machine.setPinsOwn
  simp only
  split
  · simp only
    split
    · exact taken.then Moves.allocationPass
    · exact taken
  · exact taken.then (Moves.derateEvent hr _)

theorem Moves.restartPart (hL : L.inputs) (sup : Port) : Moves L s (s.restartPart sup) := by
  have claims : Moves L s s.restartClaims.restartChannels.restartScanner :=
    (Move.restart hL).run.tail (.scan _ (.inr ⟨rfl, rfl, rfl, rfl⟩) (.inl hL))
  have softs : ∀ u : State, Moves L u u.clearSofts := fun u =>
    Moves.foldl (fun _ p => (Move.session p _ (.soft false hL (by simp))).run) allPorts u
  have groups : ∀ u : State, Moves L u u.restartGroups := by
    intro u
    refine (softs u).then (.trans (Move.trip { u.trip with inputs := u.trip.inputs &&& 0xF#10 } hL ?_).run
      (Moves.putGroups hL _ ?_))
    · have : u.clearSofts.trip = u.trip := rfl
      exact .inr ⟨by rw [this], fun g => by simp [State.group, this]⟩
    · exact .inr fun g => by simp [Group.restart]
  have sessions : ∀ u : State, Moves L u (allPorts.foldl (fun t p => t.restartSession sup p) u) := by
    refine fun u => Moves.foldl (fun t p => ?_) allPorts u
    unfold State.restartSession
    split
    · split
      · exact Moves.endSession hL p (by decide)
      · exact Moves.lapse hL p
    · exact .refl
  have empties : ∀ u : State, Moves L u (allPorts.foldl (fun t p => t.emptyNotices p) u) := fun u =>
    Moves.foldl (fun _ p => (Move.empty p).run) allPorts u
  unfold State.restartPart
  refine ((((claims.then (groups _)).then (sessions _)).then (empties _)).then ?_).then Moves.allocationPass
  exact (Move.wire _ _ .restart _ _ _).run

theorem Moves.restartOwn (hL : L.inputs) (p : Port) (u : Unit) : Moves L s (restartOwn p u s).1 := by
  dsimp only [Machine.restartOwn]
  exact Moves.restartPart hL p

/-! ### The executor's step -/

/-- The executor's step is a run of moves where what the owning block does is one: it starts from the state with the command
taken, its sessions as they were, and the checks passed. -/
theorem Moves.execute {α : Type} {opcode : Byte} {decode : List Byte → Option α} {gate : Gate} {sup : Bool}
    {own : Port → α → State → State × Reply}
    (hown : ∀ (p : Port) (payload : List Byte) (a : α) (u : State), decode payload = some a → u.sessions = s.sessions →
      (gate = .openOnly → (u.session p).state = .opened) → (sup = true → (u.session p).supervisor = true) →
      Moves L u (own p a u).1) :
    Moves L s (s.execute opcode decode gate sup own) := by
  rcases State.execute_cases opcode decode gate sup own s with h | ⟨p, c, -, -, h⟩
  · rw [h]
  · rw [h]
    have taken : Moves L s (s.takeFrom p) := (Move.wire _ p s.cause s.modulators s.frameSlot s.choice).run
    refine Moves.then (taken.then ?_) (Moves.setPort p _)
    rcases State.carryOut_cases decode gate sup own (s.takeFrom p) p c.payload with
      ⟨st, -, h⟩ | ⟨a, hd, hgate, hsup, h⟩
    · rw [h]
    · rw [h]
      refine hown p c.payload a _ hd rfl (fun hg => ?_) hsup
      revert hgate
      subst hg
      cases ((s.takeFrom p).session p).state <;> simp [sessionCheck]

/-- The executor's step for a supervisor-only command. -/
theorem Moves.execute_supervisor {α : Type} {opcode : Byte} {decode : List Byte → Option α}
    {own : Port → α → State → State × Reply}
    (hown : ∀ (p : Port) (payload : List Byte) (a : α) (u : State), decode payload = some a →
      (∃ q, SupervisorOpen s q) → Moves L u (own p a u).1) :
    Moves L s (s.execute opcode decode .openOnly true own) := by
  refine Moves.execute fun p payload a u hd hu ho hs => hown p payload a u hd ⟨p, ?_⟩
  have h : u.session p = s.session p := by simp [State.session, hu]
  exact ⟨h ▸ ho rfl, h ▸ hs rfl⟩

end Operations

/-! ### Every command but the resets -/

/-- The commands that may change a budget or the DERATE state. -/
def reformsBudget : Instr → Bool
  | .derateEvent _ | .setBudget | .setPins => true
  | _ => false

/-- The commands that may change the trip unit, or what it follows. -/
def followsInputs : Instr → Bool
  | .fltPinChange _ _ | .channelConversionEnd _ _ | .railConversionEnd _ | .leaseTick _ | .leaseExpiry _ => true
  | .commandTransaction _ _ _ | .fetch _ _ _ | .statusTransaction _ _ _ | .portReset _ _ _ => true
  | .closeSession | .clearTrip | .softTrip | .clearRail | .setGroup | .clearGroup | .setPins | .evict | .restart => true
  | _ => false

/-- What a command's moves may contain, taken in a state. -/
def allowedFor (c : Instr) (s : State) : Allowed where
  settings := c = .scanCycleStart ∨ ∃ p, SupervisorOpen s p
  makes := c = .claim
  trips := ∃ ch input, c = .channelConversionEnd ch input
  reforms := reformsBudget c = true
  inputs := followsInputs c = true

theorem allowedFor_settings {c : Instr} {s : State} (h : ∃ p, SupervisorOpen s p) : (allowedFor c s).settings := .inr h

theorem allowedFor_reforms {c : Instr} {s : State} (h : reformsBudget c = true) : (allowedFor c s).reforms := h

theorem allowedFor_inputs {c : Instr} {s : State} (h : followsInputs c = true) : (allowedFor c s).inputs := h

/-- A command whose effect the part withholds under a condition. -/
theorem Moves.of_ite {L : Allowed} {s t u : State} {b : Prop} [Decidable b] (h : b → Moves L s t)
    (h' : ¬ b → Moves L s u) : Moves L s (if b then t else u) := by
  split
  · exact h ‹_›
  · exact h' ‹_›

theorem leaseOperand_range {l : List Byte} {n : Nat} (h : leaseOperand l = some n) : 1 ≤ n ∧ n ≤ 1000 := by
  unfold leaseOperand at h
  split at h
  · obtain ⟨h1, h2, rfl⟩ := within_eq_some.mp h; exact ⟨h1, h2⟩
  · cases h

theorem quotaOperands_range {l : List Byte} {o : QuotaOperands} (h : quotaOperands l = some o) : o.quota ≤ 24 := by
  unfold quotaOperands at h
  split at h
  · simp only [Option.bind_eq_bind, Option.bind_eq_some_iff] at h
    obtain ⟨p, -, q, hq, f, -, h⟩ := h
    cases h
    obtain ⟨-, h2, rfl⟩ := within_eq_some.mp hq
    exact h2
  · cases h

/-- Every command but a reset leads to a next state by a run of moves. -/
theorem exec_moves (c : Instr) (s : State) (hc : isReset c = false) : ∃ t, exec c s = .next t ∧ Moves (allowedFor c s) s t := by
  cases c with
  | powerOnReset | pinReset | resetRelease => cases hc
  | derateEvent level => exact ⟨_, rfl, .of_ite (fun _ => .refl) fun _ => Moves.derateLevel rfl level⟩
  | fltPinChange pin level => exact ⟨_, rfl, .of_ite (fun _ => .refl) fun _ => Moves.fltLevel rfl pin level⟩
  | scanCycleStart =>
    exact ⟨_, rfl, .of_ite (fun _ => .refl) fun _ => (Move.scan s.scan.startCycle (.inl (Or.inl rfl)) (.inr rfl)).run⟩
  | channelConversionEnd ch input =>
    exact ⟨_, rfl, .of_ite (fun _ => .refl) fun _ => Moves.channelConversion (Exists.intro ch ⟨input, rfl⟩) rfl ch _⟩
  | railConversionEnd input => exact ⟨_, rfl, .of_ite (fun _ => .refl) fun _ => Moves.railConversion rfl _⟩
  | leaseTick p => exact ⟨_, rfl, .of_ite (fun h => Moves.tick rfl p ((s.isOpen_iff p).mp h)) fun _ => .refl⟩
  | leaseExpiry p => exact ⟨_, rfl, .of_ite (fun h => Moves.tick rfl p ((s.isOpen_iff p).mp h.1)) fun _ => .refl⟩
  | frameStart => exact ⟨_, rfl, .of_ite (fun _ => .refl) fun _ => (Move.wire _ _ _ _ _ _).run⟩
  | slotStart => exact ⟨_, rfl, .of_ite (fun _ => .refl) fun _ => (Move.wire _ _ _ _ _ _).run⟩
  | commandTransaction p part bytes | fetch p part bytes | statusTransaction p part bytes | portReset p part bytes =>
    exact ⟨_, rfl, Moves.stretch rfl p _ part bytes⟩
  | portSelectDeassertedAfterReset p => exact ⟨_, rfl, .of_ite (fun _ => .refl) fun _ => Moves.setPort p _⟩
  | unknownOpcode =>
    refine ⟨_, rfl, ?_⟩
    split
    · exact .refl
    · next p d _ =>
      refine .of_ite (fun _ => .refl) fun _ => ?_
      exact .trans (Move.wire _ p s.cause s.modulators s.frameSlot s.choice).run (Moves.setPort p _)
  | openSession =>
    exact ⟨_, rfl, Moves.execute fun p _ n _ hd _ _ _ => Moves.openOwn p n (leaseOperand_range hd)⟩
  | closeSession => exact ⟨_, rfl, Moves.execute fun p _ _ _ _ _ _ _ => Moves.endSession rfl p (by decide)⟩
  | renew =>
    exact ⟨_, rfl, Moves.execute fun p _ _ _ _ _ ho _ => (Move.session p _ (.renews (ho rfl))).run⟩
  | setLease =>
    exact ⟨_, rfl, Moves.execute fun p _ n _ hd _ ho _ =>
      (Move.session p _ (.preloads n (ho rfl) (leaseOperand_range hd))).run⟩
  | status => exact ⟨_, rfl, Moves.execute fun _ _ _ _ _ _ _ _ => .refl⟩
  | claim => exact ⟨_, rfl, Moves.execute fun p _ o _ _ _ ho _ => Moves.claimOwn rfl p o (ho rfl)⟩
  | adjust => exact ⟨_, rfl, Moves.execute fun p _ o _ _ _ _ _ => Moves.adjustOwn p o⟩
  | release => exact ⟨_, rfl, Moves.execute fun p _ h _ _ _ _ _ => Moves.releaseOwn p h⟩
  | revoke => exact ⟨_, rfl, Moves.execute fun p _ h _ _ _ _ _ => Moves.revokeOwn p h⟩
  | queryClaim =>
    exact ⟨_, rfl, Moves.execute fun p _ h u _ _ _ _ => by rw [queryClaimOwn_state (s := u) p h]⟩
  | queryBudget => exact ⟨_, rfl, Moves.execute fun _ _ _ _ _ _ _ _ => .refl⟩
  | queryChannel => exact ⟨_, rfl, Moves.execute fun _ _ _ _ _ _ _ _ => .refl⟩
  | clearTrip => exact ⟨_, rfl, Moves.execute fun p _ ch _ _ _ _ _ => Moves.clearTripOwn rfl p ch⟩
  | softTrip => exact ⟨_, rfl, Moves.execute fun p _ v _ _ _ ho _ => Moves.softTripOwn rfl p v (ho rfl)⟩
  | takeNotice => exact ⟨_, rfl, Moves.execute fun p _ x _ _ _ _ _ => Moves.takeNoticeOwn p x⟩
  | setBudget =>
    exact ⟨_, rfl, Moves.execute_supervisor fun _ _ o u _ hs =>
      .trans (Move.budget { u.budget with normal := o.1, derated := o.2 } rfl rfl rfl (.inl (allowedFor_settings hs))).run
        (Moves.reformBudget rfl true)⟩
  | setScan =>
    exact ⟨_, rfl, Moves.execute_supervisor fun _ _ n u _ hs =>
      (Move.scan { u.scan with pendingPeriod := some n } (.inl (allowedFor_settings hs)) (.inr rfl)).run⟩
  | setRail =>
    exact ⟨_, rfl, Moves.execute_supervisor fun _ _ o u _ hs =>
      (Move.scan { u.scan with railLimit := o.1, railGain := o.2 } (.inl (allowedFor_settings hs)) (.inr rfl)).run⟩
  | clearRail => exact ⟨_, rfl, Moves.execute_supervisor fun p _ x _ _ _ => Moves.clearRailOwn rfl p x⟩
  | setChannelLoop =>
    exact ⟨_, rfl, Moves.execute_supervisor fun p _ o _ _ hs => Moves.setChannelLoopOwn (allowedFor_settings hs) p o⟩
  | setChannelLimits =>
    exact ⟨_, rfl, Moves.execute_supervisor fun _ _ o _ _ hs => (Move.channel _ _ (.limits o (allowedFor_settings hs))).run⟩
  | setGroup =>
    exact ⟨_, rfl, Moves.execute_supervisor fun _ _ o u _ hs => Moves.tripAction rfl (u.groupsSet o) (.inl (allowedFor_settings hs))⟩
  | clearGroup => exact ⟨_, rfl, Moves.execute_supervisor fun p _ g _ _ _ => Moves.clearGroupOwn rfl p g⟩
  | setPins => exact ⟨_, rfl, Moves.execute_supervisor fun p _ o _ _ hs => Moves.setPinsOwn (allowedFor_settings hs) (allowedFor_reforms rfl)
      (allowedFor_inputs rfl) p o⟩
  | setQuota =>
    exact ⟨_, rfl, Moves.execute_supervisor fun _ _ o _ hd hs =>
      (Move.session o.port _ (.quota o.quota o.floor (allowedFor_settings hs) (quotaOperands_range hd))).run⟩
  | evict => exact ⟨_, rfl, Moves.execute_supervisor fun p _ q _ _ _ => Moves.evictOwn rfl p q⟩
  | restart => exact ⟨_, rfl, Moves.execute_supervisor fun p _ x _ _ _ =>
      Moves.restartOwn (allowedFor_inputs rfl) p x⟩

/-- The inversion of a command but a reset. -/
theorem moves_of_exec {c : Instr} {s t : State} (hc : isReset c = false) (h : exec c s = .next t) :
    Moves (allowedFor c s) s t := by
  obtain ⟨u, hu, hm⟩ := exec_moves c s hc
  rw [hu] at h
  cases h
  exact hm

end Sys2Proof.Machine
end

section
/-! SUPPORT. What every command keeps of the queue and of the reset, what the resets leave, and that nothing moves while a
reset is held. -/

namespace Sys2Proof.Machine

/-! ### The queue and the reset -/

/-- No move touches the queue of waiting commands, or releases or asserts a reset. -/
theorem Move.keeps_pending {L : Allowed} {s t : State} (h : Move L s t) :
    t.pending = s.pending ∧ t.resetHeld = s.resetHeld := by
  cases h with
  | wire | scan | trip | budget | session | take | empty | channel | idle | unowned | make | amount | lower | raise =>
    exact ⟨rfl, rfl⟩
  | restart => dsimp only [State.restartChannels, State.restartClaims]; exact ⟨rfl, rfl⟩
  | hold before after c => rw [State.formHold_eq]; exact ⟨rfl, rfl⟩
  | notice p n => rw [State.notify_eq]; exact ⟨rfl, rfl⟩
  | frees i r => split <;> exact ⟨rfl, rfl⟩
  | grant i r => rw [State.grantSlot_eq]; exact ⟨rfl, rfl⟩
  | drop i r => rw [State.dropRecord_frame]; exact ⟨rfl, rfl⟩
  | shed i r => rw [State.shedRecord_frame]; exact ⟨rfl, rfl⟩

theorem Moves.keeps_pending {L : Allowed} {s t : State} (h : Moves L s t) :
    t.pending = s.pending ∧ t.resetHeld = s.resetHeld :=
  h.keeps (P := fun u => u.pending = s.pending ∧ u.resetHeld = s.resetHeld)
    (fun _ _ hu hm => ⟨hm.keeps_pending.1.trans hu.1, hm.keeps_pending.2.trans hu.2⟩) ⟨rfl, rfl⟩

theorem exec_resetRelease (supv1 supv0 : Bool) (flt : Vector Bool 4) (derate : Bool) {s : State}
    (h : s.resetHeld = true) :
    exec (.resetRelease supv1 supv0 flt derate) s = .next (s.releaseReset (strapPort supv1 supv0) flt derate) := by
  change execResetRelease supv1 supv0 flt derate s = _
  simp [execResetRelease, h]

theorem exec_resetRelease_of_not_held (supv1 supv0 : Bool) (flt : Vector Bool 4) (derate : Bool) {s : State}
    (h : s.resetHeld = false) : exec (.resetRelease supv1 supv0 flt derate) s = .next s := by
  change execResetRelease supv1 supv0 flt derate s = _
  simp [execResetRelease, h]

/-- What the strap sample changes: the session records alone. -/
theorem State.sampleStraps_frame (s : State) (sup : Port) :
    s.sampleStraps sup = { s with sessions := (s.sampleStraps sup).sessions } := rfl

/-- The release of a reset, field by field. -/
theorem State.releaseReset_eq (s : State) (sup : Port) (flt : Vector Bool 4) (derate : Bool) :
    s.releaseReset sup flt derate =
      { s with
        sessions := (s.sampleStraps sup).sessions
        trip := { s.trip with fltLevel := flt, inputs := fltInputs flt }
        budget := { s.budget with derateLevel := derate, derateOn := !derate }
        scan := s.scan.startCycle
        modulators := Vector.ofFn fun c => (s.modulators[c]).startFrame (s.channel c).drive
        frameSlot := 0
        resetHeld := false } := by
  unfold State.releaseReset
  rw [State.sampleStraps_frame]
  dsimp only [State.samplePins, State.setScan, State.startFrame, State.channel, assertedAt]

theorem State.initial_pending (s : State) (cause : ResetCause) : (s.initial cause).pending = s.pending := by
  dsimp only [State.initial]

/-- Settles O5: a reset's next state is written out, and every other command's is a run of moves. -/
theorem everyCommandCompletes : Obligations.EveryCommandCompletes := by
  intro c s
  cases hc : isReset c with
  | false =>
    obtain ⟨t, ht, hm⟩ := exec_moves c s hc
    exact ⟨t, ht, hm.keeps_pending.1⟩
  | true =>
    cases c with
    | powerOnReset => exact ⟨s.initial .powerOn, rfl, State.initial_pending s _⟩
    | pinReset => exact ⟨s.initial (pinCause s), rfl, State.initial_pending s _⟩
    | resetRelease supv1 supv0 flt derate =>
      cases h : s.resetHeld with
      | false => exact ⟨s, exec_resetRelease_of_not_held _ _ _ _ h, rfl⟩
      | true => exact ⟨_, exec_resetRelease _ _ _ _ h, by rw [State.releaseReset_eq]⟩
    | _ => cases hc

/-! ### The step -/

/-- Settles O4: the step's own definition, and its case of the empty queue. -/
theorem stepTakesTheFrontCommand : Obligations.StepTakesTheFrontCommand := by
  refine ⟨fun c rest s => ?_, fun s h => ?_⟩
  · simp only [step]
  · simp only [step, h]

/-! ### A held reset -/

section Held
variable {s : State}

/-- While a reset is held at the initial values no command waits, no session is OPEN and no port listens. -/
theorem HeldAtInitial.quiet (h : HeldAtInitial s) (hr : s.resetHeld = true) (p : Port) :
    s.nextWaiting = none ∧ s.isOpen p = false ∧ s.takesTransactions p = false := by
  rw [h hr]
  refine ⟨(State.nextWaiting_eq_none _).mpr fun q => ?_, ?_, rfl⟩
  · cases q <;> rfl
  · cases p <;> rfl

theorem State.execute_of_none {α : Type} {opcode : Byte} {decode : List Byte → Option α} {gate : Gate} {sup : Bool}
    {own : Port → α → State → State × Reply} (h : s.nextWaiting = none) : s.execute opcode decode gate sup own = s := by
  unfold State.execute
  rw [h]

/-- Settles O3: each command but a reset is withheld by the reset itself, by a session that is not OPEN, by a port that does
not listen, or by there being no command to take. -/
theorem nothingMovesWhileResetIsHeld : Obligations.NothingMovesWhileResetIsHeld := by
  intro c s h hr hc
  have none : s.nextWaiting = none := (h.quiet hr .A).1
  have closed : ∀ p, s.isOpen p = false := fun p => (h.quiet hr p).2.1
  have deaf : ∀ p, s.takesTransactions p = false := fun p => (h.quiet hr p).2.2
  have withheld : ∀ t : State, (if s.resetHeld = true then s else t) = s := fun t => if_pos hr
  cases c with
  | powerOnReset | pinReset | resetRelease => cases hc
  | derateEvent | fltPinChange | scanCycleStart | channelConversionEnd | railConversionEnd | frameStart | slotStart
    | portSelectDeassertedAfterReset => exact congrArg Host.Outcome.next (withheld _)
  | leaseTick p => exact congrArg Host.Outcome.next (if_neg (by simp [closed p]))
  | leaseExpiry p => exact congrArg Host.Outcome.next (if_neg (by simp [closed p]))
  | commandTransaction p part bytes | fetch p part bytes | statusTransaction p part bytes | portReset p part bytes =>
    exact congrArg Host.Outcome.next (State.stretch_of_not_takes (deaf p) _ part bytes)
  | unknownOpcode =>
    change execUnknownOpcode s = _
    simp [execUnknownOpcode, none]
  | _ => exact congrArg Host.Outcome.next (State.execute_of_none none)

end Held

/-! ### The resets -/

theorem State.initialValues (s : State) (cause : ResetCause) : InitialValues (s.initial cause) := by
  have replicate : ∀ {α : Type} {n : Nat} (x : α) (i : Fin n), (Vector.replicate n x)[i] = x := by
    intro α n x i; simp
  have port : ∀ {α : Type} (x : α) (p : Port), (PerPort.const x).get p = x := fun x p => PerPort.get_const x p
  exact {
    slots := fun i => replicate Slot.reset i
    stamp := rfl
    counts := fun p => port 0 p
    budgets := ⟨rfl, rfl, rfl⟩
    sums := ⟨rfl, rfl⟩
    deratePolarity := rfl
    releases := fun c => replicate 0 c
    channels := fun c => replicate ChannelRecord.reset c
    period := ⟨rfl, rfl⟩
    windows := fun c => replicate Window.reset c
    rail := ⟨rfl, rfl, rfl, rfl⟩
    counter := rfl
    groups := fun g => replicate Group.reset g
    fltPolarity := fun i => replicate Polarity.activeLow i
    inputs := by
      have clear : ∀ i, (s.initial cause).input i = false := fun i => BitVec.getLsbD_zero
      exact ⟨clear _, clear _, fun p => clear _⟩
    fault := rfl
    sessions := fun p => by
      have h : (s.initial cause).session p = Session.reset := port Session.reset p
      rw [h]
      exact ⟨rfl, rfl, rfl, rfl, rfl, rfl, rfl⟩
    notices := fun p => port NoticeQueue.reset p
    ports := fun p => by
      have h : (s.initial cause).port p = PortState.reset := port PortState.reset p
      rw [h]
      exact ⟨rfl, rfl, rfl, rfl, rfl, rfl⟩
    pointer := rfl
    modulators := fun c => by
      have h : (s.initial cause).modulators[c] = Modulator.reset := replicate Modulator.reset c
      rw [h]
      exact ⟨rfl, rfl⟩
    pins := fun c clock => rfl }

/-- Settles O1: both resets leave every block at its initial values. -/
theorem resetsInitialiseEveryBlock : Obligations.ResetsInitialiseEveryBlock := by
  refine fun s => ⟨⟨_, rfl, s.initialValues _, rfl, rfl, rfl⟩, ⟨_, rfl, s.initialValues _, ?_, rfl, rfl⟩⟩
  change pinCause s = _
  simp only [pinCause]

/-! ### The release of a reset -/

/-- The straps name the port of their number (R116). -/
theorem strapPort_number (supv1 supv0 : Bool) (p : Port) :
    p = strapPort supv1 supv0 ↔ portNumber p = 2 * flagNumber supv1 + flagNumber supv0 := by
  cases supv1 <;> cases supv0 <;> cases p <;> decide

theorem State.session_sampleStraps (s : State) (sup p : Port) :
    (s.sampleStraps sup).session p = (s.session p).strapped (decide (p = sup)) := by
  cases p <;> rfl

theorem fltInputs_getLsbD (flt : Vector Bool 4) (j : TripInput) :
    (fltInputs flt).getLsbD j.number =
      match j with
      | .flt i => !flt[i]
      | _ => false := by
  have zero : ∀ k : Nat, (0#10 : BitVec 10).getLsbD k = false := fun k => BitVec.getLsbD_zero
  simp only [fltInputs, allGroups, List.finRange_succ, List.finRange_zero, List.map_nil, List.map_cons, List.foldl_cons,
    List.foldl_nil, setInput_getLsbD, zero, assertedAt]
  cases j with
  | flt i =>
    rcases i with ⟨i, hi⟩
    interval_cases i <;> simp [TripInput.number]
  | rail => simp [TripInput.number]
  | tripany => simp [TripInput.number]
  | soft p => cases p <;> simp [TripInput.number]

/-- Settles O2: the straps and the pins sampled, the first cycle and the first frame. -/
theorem releaseSamplesStrapsAndPins : Obligations.ReleaseSamplesStrapsAndPins := by
  intro s supv1 supv0 flt derate hr
  refine ⟨_, (exec_resetRelease supv1 supv0 flt derate hr).trans (congrArg _ (s.releaseReset_eq _ flt derate)), ?_⟩
  have sessions (p : Port) := s.session_sampleStraps (strapPort supv1 supv0) p
  simp only [Session.strapped, strapPort_number, decide_eq_true_eq] at sessions
  dsimp only
  refine ⟨rfl, sessions, rfl, fun i => fltInputs_getLsbD flt (.flt i), fltInputs_getLsbD flt .rail,
    fltInputs_getLsbD flt .tripany, fun p => fltInputs_getLsbD flt (.soft p), rfl, rfl, fun c => ?_, rfl⟩
  exact Vector.getElem_ofFn _

end Sys2Proof.Machine
end

section
/-! SUPPORT. The invariant of the session records, and how an invariant of the part is proved of its step: at a reset, at its
release, and over the moves of every other command. -/

namespace Sys2Proof.Machine

/-! ### From commands to the step -/

/-- What every command keeps, whatever the queue, a step keeps. -/
theorem step_keeps {P : State → Prop} (queue : ∀ (s : State) (q : List Instr), P s → P { s with pending := q })
    (command : ∀ (c : Instr) (s t : State), P s → exec c s = .next t → P t) (s t : State) (h : P s)
    (hst : step s = .next t) : P t := by
  unfold step at hst
  split at hst
  · cases hst; exact h
  · exact command _ _ _ (queue s _ h) hst

/-- A command is a reset, the release of a held one, or a run of moves, or it changes nothing. -/
theorem exec_cases {c : Instr} {s t : State} (h : exec c s = .next t) :
    t = s ∨ (∃ cause, t = s.initial cause) ∨
      (s.resetHeld = true ∧ ∃ sup flt derate, t = s.releaseReset sup flt derate) ∨
      (isReset c = false ∧ Moves (allowedFor c s) s t) := by
  cases hc : isReset c with
  | false => exact .inr (.inr (.inr ⟨rfl, moves_of_exec hc h⟩))
  | true =>
    cases c with
    | powerOnReset => exact .inr (.inl ⟨.powerOn, (Host.Outcome.next.inj h).symm⟩)
    | pinReset => exact .inr (.inl ⟨pinCause s, (Host.Outcome.next.inj h).symm⟩)
    | resetRelease supv1 supv0 flt derate =>
      cases hr : s.resetHeld with
      | false =>
        rw [exec_resetRelease_of_not_held _ _ _ _ hr] at h
        exact .inl (Host.Outcome.next.inj h).symm
      | true =>
        rw [exec_resetRelease _ _ _ _ hr] at h
        exact .inr (.inr (.inl ⟨rfl, _, flt, derate, (Host.Outcome.next.inj h).symm⟩))
    | _ => cases hc

/-- An invariant that no move breaks is kept by every command, where the resets establish it and the release keeps it. -/
theorem exec_keeps {P : State → Prop} (initial : ∀ (s : State) (cause : ResetCause), P (s.initial cause))
    (release : ∀ (s : State) (sup : Port) (flt : Vector Bool 4) (derate : Bool), P s →
      P (s.releaseReset sup flt derate))
    (moves : ∀ (c : Instr) (s t : State), isReset c = false → P s → exec c s = .next t →
      Moves (allowedFor c s) s t → P t)
    (c : Instr) (s t : State) (h : P s) (hst : exec c s = .next t) : P t := by
  rcases exec_cases hst with rfl | ⟨cause, rfl⟩ | ⟨-, sup, flt, derate, rfl⟩ | ⟨hc, hm⟩
  · exact h
  · exact initial s cause
  · exact release s sup flt derate h
  · exact moves c s t hc h hst hm

/-! ### The held reset -/

theorem State.initial_initial (s : State) (cause cause' : ResetCause) :
    (s.initial cause).initial cause' = s.initial cause' := by
  dsimp only [State.initial]

theorem HeldAtInitial.initial (s : State) (cause : ResetCause) : HeldAtInitial (s.initial cause) :=
  fun _ => (s.initial_initial cause cause).symm

theorem State.releaseReset_resetHeld (s : State) (sup : Port) (flt : Vector Bool 4) (derate : Bool) :
    (s.releaseReset sup flt derate).resetHeld = false := by
  rw [State.releaseReset_eq]

/-- The queue of commands is no part of the initial values. -/
theorem HeldAtInitial.queue {s : State} (h : HeldAtInitial s) (q : List Instr) :
    HeldAtInitial { s with pending := q } := by
  intro hr
  conv_lhs => rw [h hr]
  dsimp only [State.initial]

/-- For a state whose reset, where held, stands at the initial values: a command leaves such a state, and either changes
nothing, or is a reset or its release, or makes its moves with no reset held. -/
theorem HeldAtInitial.exec_cases {c : Instr} {s t : State} (hs : HeldAtInitial s) (h : exec c s = .next t) :
    HeldAtInitial t ∧
      (t = s ∨ (∃ cause, t = s.initial cause) ∨
        (s.resetHeld = true ∧ ∃ sup flt derate, t = s.releaseReset sup flt derate) ∨
        (isReset c = false ∧ s.resetHeld = false ∧ t.resetHeld = false ∧ Moves (allowedFor c s) s t)) := by
  rcases Machine.exec_cases h with rfl | ⟨cause, rfl⟩ | ⟨hheld, sup, flt, derate, rfl⟩ | ⟨hc, hm⟩
  · exact ⟨hs, .inl rfl⟩
  · exact ⟨.initial s cause, .inr (.inl ⟨cause, rfl⟩)⟩
  · refine ⟨fun hr => ?_, .inr (.inr (.inl ⟨hheld, sup, flt, derate, rfl⟩))⟩
    rw [State.releaseReset_resetHeld] at hr
    cases hr
  · cases hr : s.resetHeld with
    | true =>
      rw [nothingMovesWhileResetIsHeld c s hs hr hc] at h
      cases h
      exact ⟨hs, .inl rfl⟩
    | false =>
      have ht : t.resetHeld = false := hm.keeps_pending.2.trans hr
      exact ⟨fun hr' => absurd (ht.symm.trans hr') (by decide), .inr (.inr (.inr ⟨hc, rfl, ht, hm⟩))⟩

/-! ### The session records -/

/-- A move changes the session table by a session's own move alone. -/
theorem Move.sessions_cases {L : Allowed} {s t : State} (h : Move L s t) :
    t.sessions = s.sessions ∨ ∃ p x, SessionMove L s p x ∧ t = s.setSession p x := by
  cases h with
  | session p x h => exact .inr ⟨p, x, h, rfl⟩
  | wire | scan | trip | budget | take | empty | channel | idle | unowned | make | amount | lower | raise => exact .inl rfl
  | restart => exact .inl (by dsimp only [State.restartChannels, State.restartClaims])
  | hold before after c => exact .inl (by rw [State.formHold_eq])
  | notice p n => exact .inl (by rw [State.notify_eq])
  | frees i r => exact .inl (by split <;> rfl)
  | grant i r => exact .inl (by rw [State.grantSlot_eq])
  | drop i r => exact .inl (by rw [State.dropRecord_frame])
  | shed i r => exact .inl (by rw [State.shedRecord_frame])

/-- A session's move keeps its record sound (R115). -/
theorem SessionMove.sound {L : Allowed} {s : State} {p : Port} {x : Session} (h : SessionMove L s p x)
    (hs : (s.session p).Sound) : x.Sound := by
  cases h with
  | soft v _ hv =>
    refine { opened := hs.opened, ended := fun he => ?_, next := hs.next, quota := hs.quota }
    obtain ⟨hc, hn, hr, hw, -⟩ := hs.ended he
    refine ⟨hc, hn, hr, hw, ?_⟩
    cases v with
    | false => rfl
    | true => exact absurd (hv rfl) he
  | tick ho h2 =>
    refine { opened := fun _ => ?_, ended := fun he => absurd ho he, next := hs.next, quota := hs.quota }
    obtain ⟨n, hc, hn, -, hle⟩ := hs.opened ho
    exact ⟨n, hc, hn, by simp only; omega, by simp only; omega⟩
  | warn ho =>
    exact { opened := hs.opened, ended := fun he => absurd ho he, next := hs.next, quota := hs.quota }
  | opens n _ hn =>
    exact { opened := fun _ => ⟨n, rfl, hn.2, hn.1, le_refl n⟩, ended := fun he => absurd rfl he,
            next := fun m hm => (by cases hm), quota := hs.quota }
  | renews ho =>
    refine { opened := fun _ => ?_, ended := fun he => absurd ho he, next := fun m hm => (by cases hm), quota := hs.quota }
    obtain ⟨n, hc, hn, hr1, hr2⟩ := hs.opened ho
    cases hx : (s.session p).next with
    | none => exact ⟨n, by simp [Session.renewed, hx, hc], hn, by simp [Session.renewed, Session.renewedPeriod, hx, hc]; omega,
        by simp [Session.renewed, Session.renewedPeriod, hx, hc]⟩
    | some m =>
      obtain ⟨h1, h2⟩ := hs.next m hx
      exact ⟨m, by simp [Session.renewed, hx], h2, by simpa [Session.renewed, Session.renewedPeriod, hx] using h1,
        by simp [Session.renewed, Session.renewedPeriod, hx]⟩
  | preloads n ho hn =>
    refine { opened := hs.opened, ended := fun he => absurd ho he, next := fun m hm => ?_, quota := hs.quota }
    cases hm
    exact hn
  | quota q f _ hq => exact { opened := hs.opened, ended := hs.ended, next := hs.next, quota := hq }
  | ends result hr hsoft _ _ =>
    exact { opened := fun he => absurd he hr, ended := fun _ => ⟨rfl, rfl, rfl, rfl, hsoft⟩,
            next := fun m hm => (by cases hm), quota := hs.quota }
  | closes hl =>
    refine { opened := fun he => (by cases he), ended := fun _ => hs.ended ?_, next := hs.next, quota := hs.quota }
    rw [hl]; decide

theorem SessionMove.supervisor {L : Allowed} {s : State} {p : Port} {x : Session} (h : SessionMove L s p x) :
    x.supervisor = (s.session p).supervisor := by
  cases h <;> rfl

/-- A move keeps every session record sound, and every supervisor flag. -/
theorem Move.keeps_sessions {L : Allowed} {s t : State} (h : Move L s t) (hs : ∀ p, (s.session p).Sound) :
    (∀ p, (t.session p).Sound) ∧ ∀ p, (t.session p).supervisor = (s.session p).supervisor := by
  rcases h.sessions_cases with h | ⟨p, x, hx, rfl⟩
  · have hp : ∀ p, t.session p = s.session p := fun p => by simp only [State.session, h]
    exact ⟨fun p => hp p ▸ hs p, fun p => by rw [hp p]⟩
  · refine ⟨fun q => ?_, fun q => ?_⟩ <;> rw [State.session_setSession] <;> split
    · exact hx.sound (hs p)
    · exact hs q
    · next e => rw [e, hx.supervisor]
    · rfl

theorem Moves.keeps_sessions {L : Allowed} {s t : State} (h : Moves L s t) (hs : ∀ p, (s.session p).Sound) :
    (∀ p, (t.session p).Sound) ∧ ∀ p, (t.session p).supervisor = (s.session p).supervisor :=
  h.keeps (P := fun u => (∀ p, (u.session p).Sound) ∧ ∀ p, (u.session p).supervisor = (s.session p).supervisor)
    (fun _ _ hu hm => ⟨(hm.keeps_sessions hu.1).1, fun p => ((hm.keeps_sessions hu.1).2 p).trans (hu.2 p)⟩)
    ⟨hs, fun _ => rfl⟩

theorem SessionsSound.initial (s : State) (cause : ResetCause) : SessionsSound (s.initial cause) where
  held := .initial s cause
  sound p := by
    have h : (s.initial cause).session p = Session.reset := PerPort.get_const _ p
    rw [h]
    exact { opened := fun h => (by cases h), ended := fun _ => ⟨rfl, rfl, rfl, rfl, rfl⟩, next := fun _ h => (by cases h),
            quota := by decide }
  supervisor h := by cases h

/-- The release makes the strapped port the one supervisor, and keeps the records sound (R116). -/
theorem SessionsSound.release {s : State} (hs : SessionsSound s) (sup : Port) (flt : Vector Bool 4) (derate : Bool) :
    SessionsSound (s.releaseReset sup flt derate) := by
  have hp : ∀ p, (s.releaseReset sup flt derate).session p = (s.session p).strapped (decide (p = sup)) := by
    intro p
    rw [← State.session_sampleStraps, State.session, State.releaseReset_eq]
    rfl
  refine ⟨fun h => ?_, fun p => ?_, fun _ => ⟨sup, fun p => by rw [hp]; rfl⟩⟩
  · rw [State.releaseReset_resetHeld] at h; cases h
  · rw [hp]
    exact { opened := (hs.sound p).opened, ended := (hs.sound p).ended, next := (hs.sound p).next,
            quota := (hs.sound p).quota }

/-- Settles O12: the resets establish it, and every move keeps the records and the flags. -/
theorem sessionsStaySound : Obligations.SessionsStaySound := by
  refine step_keeps (fun s q h => ⟨h.held.queue q, h.sound, h.supervisor⟩) fun c s t h hst => ?_
  obtain ⟨held, rfl | ⟨cause, rfl⟩ | ⟨-, sup, flt, derate, rfl⟩ | ⟨-, hr, -, hm⟩⟩ := h.held.exec_cases hst
  · exact h
  · exact .initial s cause
  · exact h.release sup flt derate
  · obtain ⟨hsound, hsup⟩ := hm.keeps_sessions h.sound
    refine ⟨held, hsound, fun _ => ?_⟩
    obtain ⟨sup, hs⟩ := h.supervisor hr
    exact ⟨sup, fun p => (hsup p).trans (hs p)⟩

end Sys2Proof.Machine
end

section
/-! SUPPORT. The invariant of the channel records: what a move can make of a record, and that each such event keeps the
record sound. -/

namespace Sys2Proof.Machine

/-! ### What a move can make of a channel record -/

/-- The events of a channel loop (R49), and the two settings. -/
inductive LoopEvent (L : Allowed) (r : ChannelRecord) : ChannelRecord → Prop where
  | same : LoopEvent L r r
  | measures (m : Nat) (owner : Option Port) (ht : (r.measure m owner).2 ≠ .tripped) : LoopEvent L r (r.measure m owner).1
  | trips (m : Nat) (owner : Option Port) (hL : L.trips) (ht : (r.measure m owner).2 = .tripped) :
      LoopEvent L r (r.measure m owner).1
  | grants (h : Handle) (amount : Nat) (hs : r.state = .idle) : LoopEvent L r (r.grant h amount)
  | releases (amount : Nat) : LoopEvent L r (r.release amount)
  | retargets (amount : Nat) : LoopEvent L r (r.retarget amount)
  | holds (hL : L.inputs) : LoopEvent L r r.whenHeld
  | resumes (hL : L.inputs) : LoopEvent L r r.whenResumed
  | clears (hL : L.inputs) (h : r.state = .tripped) : LoopEvent L r r.clearTrip
  | restarts (hL : L.inputs) : LoopEvent L r r.restart
  | loops (o : LoopOperands) (hL : L.settings) : LoopEvent L r (r.setLoop o)
  | limits (o : LimitsOperands) (hL : L.settings) : LoopEvent L r (r.setLimits o)

/-- An event of one channel is one for every channel of the table. -/
theorem LoopEvent.of_set {L : Allowed} {s : State} {c : Channel} {x : ChannelRecord} (h : LoopEvent L (s.channel c) x)
    (d : Channel) : LoopEvent L (s.channel d) ((s.setChannel c x).channel d) := by
  rw [State.channel_setChannel]
  split
  · next e => exact e ▸ h
  · exact .same

theorem State.eligible_idle {s : State} {r : Claim} (h : s.eligible r = true) :
    (s.channel r.channel).state = .idle ∧ s.grantedOn r.channel = false ∧ r.amount ≤ s.budget.effective := by
  simpa [State.eligible, State.free, and_assoc] using h

/-- What a move makes of a channel record is an event of its loop. -/
theorem Move.loopEvent {L : Allowed} {s t : State} (h : Move L s t) (d : Channel) :
    LoopEvent L (s.channel d) (t.channel d) := by
  cases h with
  | wire | scan | trip | budget | session | take | empty | unowned | make | amount => exact .same
  | notice p n => rw [State.notify_eq]; exact .same
  | frees i r => split <;> exact .same
  | channel c x h =>
    refine LoopEvent.of_set ?_ d
    cases h with
    | measures m owner ht => exact .measures m owner ht
    | trips m owner hL ht => exact .trips m owner hL ht
    | clears hL ht => exact .clears hL ht
    | loops o hL => exact .loops o hL
    | limits o hL => exact .limits o hL
  | idle c m owner h => exact LoopEvent.of_set (.measures m owner (by rw [h]; decide)) d
  | lower i r a | raise i r a => exact LoopEvent.of_set (.retargets a) d
  | hold before after c hL =>
    rw [State.formHold_eq]
    refine LoopEvent.of_set ?_ d
    split
    · exact .same
    · split
      · exact .holds hL
      · exact .resumes hL
  | grant i r _ _ he =>
    rw [State.grantSlot_eq]
    exact LoopEvent.of_set (.grants _ _ (State.eligible_idle he).1) d
  | drop i r hr =>
    unfold State.dropRecord
    simp only [hr]
    cases r.state with
    | pending => exact .same
    | granted =>
      simp only
      rw [State.sendRelease_frame]
      exact LoopEvent.of_set (s := (s.freeSlot i r).lowerGranted r.amount) (.releases _) d
  | shed i r =>
    rw [State.shedRecord_frame]
    exact LoopEvent.of_set (.releases _) d
  | restart hL =>
    have h : s.restartClaims.restartChannels.channel d = (s.channel d).restart := by
      dsimp only [State.restartChannels, State.restartClaims, State.channel]
      exact Vector.getElem_ofFn _
    rw [h]
    exact .restarts hL

/-! ### Records that are sound -/

/-- The settle working values that every state keeps in range (R43, R58, R59). -/
structure ChannelRecord.Ranged (r : ChannelRecord) : Prop where
  confirm_values : r.confirm ∈ [2, 4, 8, 16, 32]
  votes_below_confirm : r.voteCount < r.confirm
  run_le : r.run ≤ 3

theorem ChannelRecord.Sound.ranged {r : ChannelRecord} (h : r.Sound) : r.Ranged :=
  ⟨h.confirm_values, h.votes_below_confirm, h.run_le⟩

theorem ChannelRecord.Ranged.confirm_pos {r : ChannelRecord} (h : r.Ranged) : 0 < r.confirm :=
  Nat.lt_of_le_of_lt (Nat.zero_le _) h.votes_below_confirm

theorem ChannelRecord.freshSettle_ranged (r : ChannelRecord) : r.freshSettle.Ranged :=
  ⟨by simp [ChannelRecord.freshSettle], by simp [ChannelRecord.freshSettle], by simp [ChannelRecord.freshSettle]⟩

/-- A record in IDLE or TRIPPED. -/
theorem ChannelRecord.Sound.of_free {r : ChannelRecord} (hs : r.state = .idle ∨ r.state = .tripped) (hr : r.Ranged)
    (hd : r.drive = 0) (hk : r.strikes = 0) (ht : r.target = 0) (hh : r.holder = none) : r.Sound := by
  obtain ⟨hc, hv, hrun⟩ := hr
  rcases hs with hs | hs <;> constructor <;> simp_all [LoopState.grantedState, LoopState.guarded]

/-- A record in HELD. -/
theorem ChannelRecord.Sound.of_held {r : ChannelRecord} (hs : r.state = .held) (hr : r.Ranged) (hd : r.drive = 0)
    (hk : r.strikes = 0) (hh : r.holder.isSome = true) (ho : r.hold = true) : r.Sound := by
  obtain ⟨hc, hv, hrun⟩ := hr
  constructor <;> simp_all [LoopState.grantedState, LoopState.guarded]

/-- A record in RELEASING. -/
theorem ChannelRecord.Sound.of_releasing {r : ChannelRecord} (hs : r.state = .releasing) (hr : r.Ranged)
    (hd : r.drive ≤ r.config.ceiling) (hk : r.strikes ≤ 2) (hh : r.holder = none) (ho : r.hold = false) : r.Sound := by
  obtain ⟨hc, hv, hrun⟩ := hr
  constructor <;> simp_all [LoopState.grantedState]

/-- A record in a settle state. -/
theorem ChannelRecord.Sound.of_settling {r : ChannelRecord} (hs : r.state.settling = true) (hr : r.Ranged)
    (hd : r.drive ≤ r.config.ceiling) (hk : r.strikes ≤ 2) (hh : r.holder.isSome = true) (ho : r.hold = false)
    (hramp : r.state = .ramp → r.lastBelow ≤ r.drive)
    (hbisect : r.state = .bisect → r.lo < r.drive ∧ r.drive < r.hi ∧ r.hi ≤ r.config.ceiling)
    (hlimited : r.state = .limited → r.drive = r.config.ceiling) : r.Sound := by
  obtain ⟨hc, hv, hrun⟩ := hr
  cases hst : r.state <;> simp [hst, LoopState.settling] at hs <;> constructor <;>
    simp_all [LoopState.grantedState]

theorem LoopState.guarded_of_settling {x : LoopState} (h : x.settling = true) :
    x.guarded = true ∧ x.grantedState = true := by
  cases x <;> simp_all [LoopState.settling, LoopState.guarded, LoopState.grantedState]

/-- A record that enters TRACK from a settle state, at a drive level within the ceiling (R55, R56, R61, R64). -/
theorem ChannelRecord.Sound.toTrack {r : ChannelRecord} (hr : r.Ranged) (hd : r.drive ≤ r.config.ceiling)
    (hk : r.strikes ≤ 2) (hh : r.holder.isSome = true) (ho : r.hold = false) : r.toTrack.Sound :=
  .of_settling rfl ⟨hr.confirm_values, hr.confirm_pos, hr.run_le⟩ hd hk hh ho (fun h => by cases h) (fun h => by cases h)
    fun h => by cases h

theorem ChannelRecord.Sound.toIdle {r : ChannelRecord} (hr : r.Ranged) : r.toIdle.Sound :=
  .of_free (.inl rfl) ⟨hr.confirm_values, hr.votes_below_confirm, hr.run_le⟩ rfl rfl rfl rfl

/-! ### The events keep a record sound -/

section Events
variable {r : ChannelRecord} (hs : r.Sound)
include hs

theorem ChannelRecord.Sound.holder_of_settling (h : r.state.settling = true) : r.holder.isSome = true :=
  hs.holder_iff.trans (LoopState.guarded_of_settling h).2

theorem ChannelRecord.Sound.hold_of_settling (h : r.state.settling = true) : r.hold = false :=
  hs.driving_not_hold (LoopState.guarded_of_settling h).1

omit hs in
theorem ChannelRecord.Sound.grant (h : Handle) (amount : Nat) : (r.grant h amount).Sound := by
  have fresh := r.freshSettle_ranged
  unfold ChannelRecord.grant
  simp only
  split
  · next hh => exact .of_held rfl ⟨fresh.1, fresh.2, fresh.3⟩ rfl rfl rfl hh
  · next hh =>
    exact .of_settling rfl ⟨fresh.1, fresh.2, fresh.3⟩ (Nat.min_le_right _ _) (Nat.zero_le _) rfl (Bool.not_eq_true _ ▸ hh)
      (fun _ => Nat.zero_le _) (fun h => by cases h) fun h => by cases h

theorem ChannelRecord.Sound.release (amount : Nat) : (r.release amount).Sound := by
  have settled (hset : r.state.settling = true) :
      (if 0 < r.drive then { r with state := .releasing, holder := none, target := amount } else r.toIdle).Sound := by
    split
    · exact .of_releasing rfl ⟨hs.confirm_values, hs.votes_below_confirm, hs.run_le⟩ hs.drive_le_ceiling hs.strikes_le rfl
        (hs.hold_of_settling hset)
    · exact .toIdle hs.ranged
  unfold ChannelRecord.release
  split
  · exact .toIdle hs.ranged
  all_goals first
    | exact hs
    | exact settled (by simp [*, LoopState.settling])

theorem ChannelRecord.Sound.clearVotes : r.clearVotes.Sound :=
  { hs with votes_below_confirm := hs.ranged.confirm_pos }

/-- Outside IDLE and TRIPPED the target is free. -/
theorem ChannelRecord.Sound.withTarget (amount : Nat) (h : r.state ≠ .idle ∧ r.state ≠ .tripped) :
    ({ r with target := amount } : ChannelRecord).Sound :=
  { hs with target_zero := fun ht => ht.elim (absurd · h.1) (absurd · h.2) }

theorem ChannelRecord.Sound.retarget (amount : Nat) : (r.retarget amount).Sound := by
  unfold ChannelRecord.retarget
  split
  case h_1 h => exact hs.clearVotes.withTarget amount (by simp [ChannelRecord.clearVotes, h])
  all_goals first
    | exact hs
    | exact hs.withTarget amount (by simp [*])

theorem ChannelRecord.Sound.whenHeld : r.whenHeld.Sound := by
  have settled (hset : r.state.settling = true) :
      ({ r with hold := true, state := .held, drive := 0, strikes := 0 } : ChannelRecord).Sound :=
    .of_held rfl ⟨hs.confirm_values, hs.votes_below_confirm, hs.run_le⟩ rfl rfl (hs.holder_of_settling hset) rfl
  have resting (h : r.state.guarded = false) : ({ r with hold := true } : ChannelRecord).Sound :=
    { hs with held_hold := fun _ => rfl, driving_not_hold := fun hg => absurd (h.symm.trans hg) (by decide) }
  unfold ChannelRecord.whenHeld
  split
  case h_5 => exact .of_free (.inl rfl) ⟨hs.confirm_values, hs.votes_below_confirm, hs.run_le⟩ rfl rfl rfl rfl
  all_goals first
    | exact settled (by simp [*, LoopState.settling])
    | exact resting (by simp [*, LoopState.guarded])

theorem ChannelRecord.Sound.whenResumed : r.whenResumed.Sound := by
  have fresh := r.freshSettle_ranged
  have clear (h : r.state ≠ .held) : ({ r with hold := false } : ChannelRecord).Sound :=
    { hs with held_hold := fun hh => absurd hh h, driving_not_hold := fun _ => rfl }
  unfold ChannelRecord.whenResumed
  split
  case h_1 h =>
    exact .of_settling rfl ⟨fresh.1, fresh.2, fresh.3⟩ (Nat.min_le_right _ _) (Nat.zero_le _)
      (hs.holder_iff.trans (by rw [h]; rfl)) rfl (fun _ => Nat.zero_le _) (fun h => by cases h) fun h => by cases h
  all_goals exact clear (by simp [*])

theorem ChannelRecord.Sound.clearTrip : r.clearTrip.Sound :=
  { ChannelRecord.Sound.toIdle hs.ranged with }

omit hs in
theorem ChannelRecord.Sound.restart : r.restart.Sound :=
  have fresh := r.freshSettle_ranged
  .of_free (.inl rfl) ⟨fresh.1, fresh.2, fresh.3⟩ rfl rfl rfl rfl

theorem ChannelRecord.Sound.setLoop (o : LoopOperands) : (r.setLoop o).Sound := { hs with }

/-- A ceiling change clips the drive level, or ends a settle state that the new ceiling leaves no room (R64, R65). -/
theorem ChannelRecord.Sound.changeCeiling (ceiling : Nat) : (r.changeCeiling ceiling).Sound := by
  have ranged := hs.ranged
  unfold ChannelRecord.changeCeiling
  simp only
  split
  · next hclip =>
    split
    · next hset =>
      exact .toTrack ⟨ranged.1, ranged.2, ranged.3⟩ (le_refl _) hs.strikes_le (hs.holder_of_settling hset) (hs.hold_of_settling hset)
    · next hset =>
      have hrel : r.state = .releasing := by
        have := hs.drive_zero
        cases hst : r.state <;> simp_all [LoopState.settling]
      exact .of_releasing hrel ⟨ranged.1, ranged.2, ranged.3⟩ (le_refl _) hs.strikes_le
        (by simpa [hrel, LoopState.grantedState] using hs.holder_iff) (hs.driving_not_hold (by rw [hrel]; rfl))
  · next hfits =>
    have hd : r.drive ≤ ceiling := Nat.not_lt.mp hfits
    have track (hset : r.state.settling = true) :
        ({ r with config := { r.config with ceiling := ceiling } } : ChannelRecord).toTrack.Sound :=
      .toTrack ⟨ranged.1, ranged.2, ranged.3⟩ hd hs.strikes_le (hs.holder_of_settling hset) (hs.hold_of_settling hset)
    have stored (hb : r.state = .bisect → r.hi ≤ ceiling) (hl : r.state = .limited → r.drive = ceiling) :
        ({ r with config := { r.config with ceiling := ceiling } } : ChannelRecord).Sound :=
      { hs with
        drive_le_ceiling := hd
        bisect_between := fun h => ⟨(hs.bisect_between h).1, (hs.bisect_between h).2.1, hb h⟩
        limited_at_ceiling := hl }
    split
    · next hst =>
      split
      · exact track (by rw [hst]; rfl)
      · exact stored (fun _ => by have := (hs.bisect_between hst).2.2; omega) (by simp [hst])
    · next hst =>
      split
      · exact track (by rw [hst]; rfl)
      · exact stored (by simp [hst]) (fun _ => by have := hs.limited_at_ceiling hst; omega)
    all_goals exact stored (by simp [*]) (by simp [*])

theorem ChannelRecord.Sound.setLimits (o : LimitsOperands) : (r.setLimits o).Sound :=
  ChannelRecord.Sound.changeCeiling
    (r := { r with config := { r.config with rating := o.rating, guard := o.guard, gain := o.gain } }) { hs with } o.ceiling

/-! ### Measurements -/

/-- The interval halved, in RAMP's and BISECT's step, where its upper end is within the ceiling (R55, R56). -/
theorem ChannelRecord.Sound.halve (hset : r.state.settling = true) (lo hi : Nat) (h : hi ≤ r.config.ceiling) :
    ({ r with lo := lo, hi := hi } : ChannelRecord).halve.Sound := by
  have ranged := hs.ranged
  have hh := hs.holder_of_settling hset
  have ho := hs.hold_of_settling hset
  unfold ChannelRecord.halve
  split
  · exact .of_settling rfl ⟨ranged.1, ranged.confirm_pos, ranged.3⟩ h hs.strikes_le hh ho (fun h => by cases h)
      (fun h => by cases h) fun h => by cases h
  · next hgap =>
    simp only at hgap ⊢
    exact .of_settling rfl ⟨ranged.1, ranged.2, ranged.3⟩ (by simp only; omega) hs.strikes_le hh ho (fun h => by cases h)
      (fun _ => ⟨by simp only; omega, by simp only; omega, h⟩) fun h => by cases h

theorem ChannelRecord.Sound.rampStep (h : r.state = .ramp) (m : Nat) : (r.rampStep m).1.Sound := by
  have hset : r.state.settling = true := by rw [h]; rfl
  have hh := hs.holder_of_settling hset
  have ho := hs.hold_of_settling hset
  have hr : r.Ranged := hs.ranged
  unfold ChannelRecord.rampStep
  split
  · exact hs.halve hset r.lastBelow r.drive hs.drive_le_ceiling
  · split
    · next hc =>
      exact .of_settling rfl ⟨hr.1, hr.2, hr.3⟩ hs.drive_le_ceiling hs.strikes_le hh ho (fun h => by cases h)
        (fun h => by cases h) fun _ => Nat.le_antisymm hs.drive_le_ceiling hc
    · next hc =>
      exact .of_settling hset ⟨hr.1, hr.2, hr.3⟩ (Nat.min_le_right _ _) hs.strikes_le hh ho
        (fun _ => by simp only; omega) (by simp [h]) (by simp [h])

theorem ChannelRecord.Sound.bisectStep (h : r.state = .bisect) (m : Nat) : (r.bisectStep m).1.Sound := by
  have hset : r.state.settling = true := by rw [h]; rfl
  unfold ChannelRecord.bisectStep
  split
  · exact hs.halve hset r.lo r.drive hs.drive_le_ceiling
  · exact hs.halve hset r.drive r.hi (hs.bisect_between h).2.2

/-- A vote, and the adjustment that completes a run of them (R58 to R60). -/
theorem ChannelRecord.Sound.vote (h : r.state = .track) (d : Direction) : (r.vote d).1.Sound := by
  have hset : r.state.settling = true := by rw [h]; rfl
  have hh := hs.holder_of_settling hset
  have ho := hs.hold_of_settling hset
  have adapted := adapted_range r.clearVotes d hs.confirm_values hs.run_le
  have adjusted (n : Nat) (hn : n ≤ r.config.ceiling) :
      ({ r.clearVotes.adapt d with drive := n } : ChannelRecord).Sound := by
    rw [ChannelRecord.adapt_eq]
    refine .of_settling hset ⟨adapted.1, ?_, adapted.2⟩ hn hs.strikes_le hh ho ?_ ?_ ?_
    · have h1 := adapted.1
      simp only [List.mem_cons, List.not_mem_nil, or_false] at h1
      simp only [ChannelRecord.clearVotes] at h1 ⊢
      omega
    all_goals simp [ChannelRecord.clearVotes, h]
  unfold ChannelRecord.vote
  split
  · unfold ChannelRecord.adjust
    cases d with
    | none => exact hs.clearVotes
    | up =>
      simp only
      split
      · next hc =>
        exact .of_settling rfl ⟨hs.confirm_values, hs.ranged.confirm_pos, hs.run_le⟩ hs.drive_le_ceiling hs.strikes_le hh ho
          (fun h => by cases h) (fun h => by cases h) fun _ => Nat.le_antisymm hs.drive_le_ceiling hc
      · next hc => exact adjusted (r.drive + 1) (by simp only [ChannelRecord.clearVotes] at hc; omega)
    | down => exact adjusted (r.drive - 1) (by have := hs.drive_le_ceiling; omega)
  · next hv => exact { hs with votes_below_confirm := Nat.not_le.mp hv }

theorem ChannelRecord.Sound.trackStep (h : r.state = .track) (m : Nat) : (r.trackStep m).1.Sound := by
  unfold ChannelRecord.trackStep
  split
  · exact hs.vote h .down
  · split
    · exact hs.vote h .up
    · split
      · exact hs.clearVotes
      · exact { hs.clearVotes with }

theorem ChannelRecord.Sound.limitedStep (h : r.state = .limited) (m : Nat) : (r.limitedStep m).1.Sound := by
  have hset : r.state.settling = true := by rw [h]; rfl
  unfold ChannelRecord.limitedStep
  split
  · exact .toTrack hs.ranged hs.drive_le_ceiling hs.strikes_le (hs.holder_of_settling hset) (hs.hold_of_settling hset)
  · exact hs

theorem ChannelRecord.Sound.windDownStep (h : r.state = .releasing) : r.windDownStep.1.Sound := by
  unfold ChannelRecord.windDownStep
  split
  · exact .of_releasing h ⟨hs.confirm_values, hs.votes_below_confirm, hs.run_le⟩
      (Nat.le_trans (Nat.sub_le _ _) hs.drive_le_ceiling) hs.strikes_le
      (by simpa [h, LoopState.grantedState] using hs.holder_iff) (hs.driving_not_hold (by rw [h]; rfl))
  · exact .toIdle hs.ranged

theorem ChannelRecord.Sound.stateStep (m : Nat) : (r.stateStep m).1.Sound := by
  unfold ChannelRecord.stateStep
  split
  · exact hs.rampStep ‹_› m
  · exact hs.bisectStep ‹_› m
  · exact hs.trackStep ‹_› m
  · exact hs.limitedStep ‹_› m
  · exact hs.windDownStep ‹_›
  all_goals exact hs

/-- A measurement keeps the record sound: the guard's trip leaves TRIPPED, and below it the strike count is at most 2. -/
theorem ChannelRecord.Sound.measure (m : Nat) (owner : Option Port) : (r.measure m owner).1.Sound := by
  unfold ChannelRecord.measure
  simp only
  split
  · next hg =>
    split
    · exact .of_free (.inr rfl) ⟨hs.confirm_values, hs.votes_below_confirm, hs.run_le⟩ rfl rfl rfl rfl
    · next hk =>
      refine ChannelRecord.Sound.stateStep (r := { r with measured := m, strikes := r.strikesAfter m }) ?_ m
      refine { hs with strikes_le := by simp only; omega, strikes_zero := fun h => ?_ }
      rcases h with h | h | h <;> simp only at h <;> simp [h, LoopState.guarded] at hg
  · exact { hs with }

end Events

theorem LoopEvent.sound {L : Allowed} {r x : ChannelRecord} (h : LoopEvent L r x) (hs : r.Sound) : x.Sound := by
  cases h with
  | same => exact hs
  | measures m owner | trips m owner => exact hs.measure m owner
  | grants h amount => exact .grant h amount
  | releases amount => exact hs.release amount
  | retargets amount => exact hs.retarget amount
  | holds => exact hs.whenHeld
  | resumes => exact hs.whenResumed
  | clears => exact hs.clearTrip
  | restarts => exact .restart
  | loops o => exact hs.setLoop o
  | limits o => exact hs.setLimits o

/-! ### The step -/

theorem ChannelRecord.Sound.reset : ChannelRecord.reset.Sound :=
  .of_free (.inl rfl) ⟨by decide, by decide, by decide⟩ rfl rfl rfl rfl

theorem ChannelsSound.initial (s : State) (cause : ResetCause) : ChannelsSound (s.initial cause) := by
  intro c
  have h : (s.initial cause).channel c = ChannelRecord.reset := by
    simp [State.initial, State.channel, State.reset]
  rw [h]
  exact .reset

/-- Settles O6: at a reset every record is as after power-on, its release leaves them, and each move makes of a record what
an event of its loop makes. -/
theorem channelRecordsStaySound : Obligations.ChannelRecordsStaySound := by
  refine step_keeps (fun s q h => h) (exec_keeps ChannelsSound.initial (fun s sup flt derate h => ?_)
    fun c s t _ h _ hm => hm.keeps (P := ChannelsSound) (fun s t h hm d => (hm.loopEvent d).sound (h d)) h)
  rw [State.releaseReset_eq]
  exact h

end Sys2Proof.Machine
end

section
/-! SUPPORT. The invariant of the notice queues: what a move can make of a queue, and that each such event keeps it sound. -/

namespace Sys2Proof.Machine

/-! ### What a move can make of a notice queue -/

/-- What can become of a port's notice queue. -/
inductive NoticeEvent (s : State) (p : Port) : NoticeQueue → Prop where
  | same : NoticeEvent s p (s.noticesOf p)
  | put (n : Notice) (ho : (s.session p).state = .opened) (hn : n.kind ≠ .overflow) :
      NoticeEvent s p ((s.noticesOf p).put n)
  | take (n : Notice) (rest : List Notice) (h : (s.noticesOf p).queue = n :: rest) :
      NoticeEvent s p (s.afterTake (s.noticesOf p) rest)
  | empty : NoticeEvent s p NoticeQueue.reset

theorem noticeOf_kind_ne {s : State} {k : Kind} (hk : k ≠ .overflow) {c : Channel} {h : Option Handle} {v : Option Nat} :
    (noticeOf s k c h v).kind ≠ .overflow := hk

/-- A notice made for one port joins its queue alone, and that where its session is OPEN (R133). -/
theorem NoticeEvent.of_withNotice {s t : State} {q : Port} {n : Notice} (hn : n.kind ≠ .overflow)
    (h : t.notices = withNotice s q n) (p : Port) : NoticeEvent s p (t.noticesOf p) := by
  rw [State.noticesOf, h]
  unfold withNotice
  split
  · next ho =>
    rw [PerPort.get_set]
    split
    · next e => subst e; exact .put n ho hn
    · exact .same
  · exact .same

theorem NoticeEvent.of_eq {s t : State} (h : t.notices = s.notices) (p : Port) : NoticeEvent s p (t.noticesOf p) := by
  rw [State.noticesOf, h]
  exact .same

/-- Where a notice may be made for a holder's port. -/
theorem NoticeEvent.of_withHolderNotice {s t : State} {k : Kind} (hk : k ≠ .overflow) {u : State}
    (hs : u.sessions = s.sessions) (hn : u.notices = s.notices) {c : Channel} {v : Option Nat}
    (h : t.notices = withHolderNotice u k c v) (p : Port) : NoticeEvent s p (t.noticesOf p) := by
  have hw : ∀ q n, withNotice u q n = withNotice s q n := by
    intro q n
    unfold withNotice State.session State.noticesOf
    rw [hs, hn]
  unfold withHolderNotice at h
  split at h
  · exact .of_withNotice (noticeOf_kind_ne hk) (h.trans (hw _ _)) p
  · exact .of_eq (h.trans hn) p

/-- Forming a hold flag makes a notice at most (R69, R72). -/
theorem State.formHold_notices (s : State) (before after : Vector Group 4) (c : Channel) :
    (s.formHold before after c).notices = s.notices ∨ ∃ (u : State) (k : Kind) (v : Option Nat), k ≠ .overflow ∧
      u.sessions = s.sessions ∧ u.notices = s.notices ∧ (s.formHold before after c).notices = withHolderNotice u k c v := by
  unfold State.formHold
  split
  · exact .inl rfl
  · split
    · unfold State.sendHold
      simp only
      split
      · refine .inr ⟨s.setChannel c (s.channel c).takeHold, .held, some (raisingGroup before after c).val, by decide, rfl, rfl, ?_⟩
        rw [State.notifyHolder_eq]
      · split <;> exact .inl rfl
    · unfold State.sendUnhold
      simp only
      split
      · refine .inr ⟨s.setChannel c (s.channel c).takeUnhold, .resumed, none, by decide, rfl, rfl, ?_⟩
        rw [State.notifyHolder_eq]
      · exact .inl rfl

/-- What a shed makes of the notice queues: one SHED notice for the record's port (R34). -/
theorem State.shedRecord_notices (s : State) (i : Fin 24) (r : Claim) :
    (s.shedRecord i r).notices = withNotice s r.port (noticeOf s .shed r.channel (some (s.handleAt i)) none) := by
  have hh : ∀ u : State, u.slots = s.slots.set i ⟨(s.slot i).gen, some { r with state := .pending, shed := min 255 (r.shed + 1) }⟩ →
      u.handleAt i = s.handleAt i := by
    intro u hu
    simp [State.handleAt, State.slot, hu]
  unfold State.shedRecord
  simp only
  rw [State.notify_eq, State.sendRelease_frame, hh]
  · rfl
  · rfl

/-- What a move makes of a notice queue is one of its events. -/
theorem Move.noticeEvent {L : Allowed} {s t : State} (h : Move L s t) (p : Port) : NoticeEvent s p (t.noticesOf p) := by
  cases h with
  | wire | scan | trip | budget | session | channel | idle | unowned | make | amount | lower | raise => exact .same
  | restart => exact .of_eq (by dsimp only [State.restartChannels, State.restartClaims]) p
  | frees i r => exact .of_eq (by split <;> rfl) p
  | drop i r => exact .of_eq (by rw [State.dropRecord_frame]) p
  | notice q n hn => exact .of_withNotice hn (by rw [State.notify_eq]) p
  | grant i r => exact .of_withNotice (noticeOf_kind_ne (k := .granted) (by decide)) (by rw [State.grantSlot_eq]) p
  | shed i r => exact .of_withNotice (noticeOf_kind_ne (by decide)) (s.shedRecord_notices i r) p
  | hold before after c =>
    rcases s.formHold_notices before after c with h | ⟨u, k, v, hk, hs, hn, h⟩
    · exact .of_eq h p
    · exact .of_withHolderNotice hk hs hn h p
  | take q n rest h =>
    rw [State.noticesOf_setNotices]
    split
    · next e => subst e; exact .take n rest h
    · exact .same
  | empty q =>
    rw [State.emptyNotices, State.noticesOf_setNotices]
    split
    · exact .empty
    · exact .same

/-! ### The events keep a queue sound -/

theorem NoticeQueue.Sound.reset : NoticeQueue.reset.Sound where
  length_le := by decide
  lost_le := by decide
  lost_full h := by cases h
  lost_kinds := by decide
  no_overflow := by decide
  attn := by decide

/-- A take leaves room for the OVERFLOW record that it places (R136). -/
theorem NoticeQueue.Sound.afterTake {s : State} {q : NoticeQueue} (hq : q.Sound) {n : Notice} {rest : List Notice}
    (h : q.queue = n :: rest) : (s.afterTake q rest).Sound := by
  have hlen := hq.length_le
  rw [h, List.length_cons] at hlen
  unfold State.afterTake
  split
  · exact { length_le := by simpa [NoticeQueue.formAttn] using hlen
            lost_le := Nat.zero_le _
            lost_full := fun h => by cases h
            lost_kinds := by simp [NoticeQueue.formAttn]
            no_overflow := BitVec.getLsbD_zero
            attn := rfl }
  · next hl =>
    exact { length_le := by simp only [NoticeQueue.formAttn]; omega
            lost_le := hq.lost_le
            lost_full := fun h => absurd h hl
            lost_kinds := hq.lost_kinds
            no_overflow := hq.no_overflow
            attn := rfl }

/-- A queue's event keeps it sound, and empty where no session is OPEN. -/
theorem NoticeEvent.sound {s : State} {p : Port} {q : NoticeQueue} (h : NoticeEvent s p q)
    (hs : (s.noticesOf p).Sound ∧ ((s.session p).state ≠ .opened → s.noticesOf p = NoticeQueue.reset)) :
    q.Sound ∧ ((s.session p).state ≠ .opened → q = NoticeQueue.reset) := by
  cases h with
  | same => exact hs
  | put n ho hn => exact ⟨hs.1.put hn, fun h => absurd ho h⟩
  | take n rest hq =>
    refine ⟨hs.1.afterTake hq, fun h => ?_⟩
    rw [hs.2 h] at hq
    cases hq
  | empty => exact ⟨.reset, fun _ => rfl⟩

/-- A session's move leaves the port without a notice where it leaves no OPEN session. -/
theorem SessionMove.noNotices {L : Allowed} {s : State} {p : Port} {x : Session} (h : SessionMove L s p x)
    (hs : (s.session p).state ≠ .opened → s.noticesOf p = NoticeQueue.reset) (hx : x.state ≠ .opened) :
    s.noticesOf p = NoticeQueue.reset := by
  cases h with
  | soft | quota => exact hs hx
  | tick ho | warn ho | renews ho | preloads _ ho => exact absurd ho hx
  | opens => exact absurd rfl hx
  | ends _ _ _ hn => exact hn
  | closes h => exact hs (by rw [h]; decide)

theorem Move.keeps_notices {L : Allowed} {s t : State} (hs : NoticesSound s) (h : Move L s t) : NoticesSound t := by
  intro p
  have event := (h.noticeEvent p).sound (hs p)
  refine ⟨event.1, fun ht => ?_⟩
  rcases h.sessions_cases with hsame | ⟨q, x, hx, rfl⟩
  · rw [State.session, hsame] at ht
    exact event.2 ht
  · rw [State.session_setSession] at ht
    split at ht
    · next e => subst e; exact hx.noNotices (hs p).2 ht
    · exact (hs p).2 ht

theorem NoticesSound.initial (s : State) (cause : ResetCause) : NoticesSound (s.initial cause) := by
  intro p
  have hp : (s.initial cause).noticesOf p = NoticeQueue.reset := PerPort.get_const _ p
  rw [hp]
  exact ⟨.reset, fun _ => rfl⟩

/-- Settles O8: the queues are empty after a reset, its release leaves them, and each move makes of a queue what one of its
events makes. -/
theorem noticeQueuesStaySound : Obligations.NoticeQueuesStaySound := by
  refine step_keeps (fun s q h => h) (exec_keeps NoticesSound.initial (fun s sup flt derate h p => ?_)
    fun c s t _ h _ hm => hm.keeps (P := NoticesSound) (fun _ _ => Move.keeps_notices) h)
  have hp : ((s.releaseReset sup flt derate).session p).state = (s.session p).state := by
    rw [State.session, State.releaseReset_eq]
    change ((s.sampleStraps sup).session p).state = _
    rw [State.session_sampleStraps]
    rfl
  have hn : (s.releaseReset sup flt derate).noticesOf p = s.noticesOf p := by
    rw [State.noticesOf, State.releaseReset_eq]; rfl
  rw [hp, hn]
  exact h p

end Sys2Proof.Machine
end

section
/-! SUPPORT. The claim table: what a move can make of it, the invariant of its counts, stamps and owners, and what a record
keeps for life. -/

namespace Sys2Proof.Machine

/-! ### Sums over a table of which one entry changes -/

theorem sum_finRange_of_update {n : Nat} {f g : Fin n → Nat} (i : Fin n) (h : ∀ j, j ≠ i → f j = g j) :
    ((List.finRange n).map f).sum + g i = ((List.finRange n).map g).sum + f i := by
  have rest : ∑ j ∈ Finset.univ.erase i, f j = ∑ j ∈ Finset.univ.erase i, g j :=
    Finset.sum_congr rfl fun j hj => h j (Finset.ne_of_mem_erase hj)
  rw [← Fin.sum_univ_def, ← Fin.sum_univ_def, ← Finset.add_sum_erase Finset.univ f (Finset.mem_univ i),
    ← Finset.add_sum_erase Finset.univ g (Finset.mem_univ i), rest]
  omega

theorem length_filter_eq_sum {α : Type} (p : α → Bool) (l : List α) :
    (l.filter p).length = (l.map fun x => if p x then 1 else 0).sum := by
  induction l with
  | nil => rfl
  | cons x rest ih =>
    rw [List.filter_cons, List.map_cons, List.sum_cons]
    split <;> simp only [List.length_cons, ih] <;> omega

/-! ### What a move can make of the claim table -/

/-- What can become of the claim table, its counts and its stamp counter. -/
inductive TableEvent (L : Allowed) (s t : State) : Prop where
  | same (hs : t.slots = s.slots) (hc : t.counts = s.counts) (hst : t.stamp = s.stamp)
  /-- A record changes its amount, its claim state or its shed count. -/
  | edit (i : Fin 24) (r q : Claim) (hr : s.record i = some r)
      (hq : q.port = r.port ∧ q.channel = r.channel ∧ q.cls = r.cls ∧ q.stamp = r.stamp)
      (hs : t.slots = s.slots.set i ⟨(s.slot i).gen, some q⟩) (hc : t.counts = s.counts) (hst : t.stamp = s.stamp)
  | free (i : Fin 24) (r : Claim) (hr : s.record i = some r)
      (hs : t.slots = s.slots.set i ⟨(s.slot i).gen + 1#8, none⟩)
      (hc : t.counts = s.counts.set r.port (s.count r.port - 1)) (hst : t.stamp = s.stamp)
  | make (p : Port) (o : ClaimOperands) (i : Fin 24) (hL : L.makes) (hi : s.record i = none) (hlt : s.stamp < stampLimit)
      (hd : s.holdsOn p o.channel = false) (ho : (s.session p).state = .opened)
      (hs : t.slots = s.slots.set i ⟨(s.slot i).gen, some ⟨p, o.channel, o.amount, o.cls, s.stamp, .pending, 0⟩⟩)
      (hc : t.counts = s.counts.set p (s.count p + 1)) (hst : t.stamp = s.stamp + 1)
  | restart (hs : ∀ i, t.slot i = (s.slot i).restart) (hc : t.counts = PerPort.const 0) (hst : t.stamp = 0)

/-- What a move makes of the claim table is one of its events. -/
theorem Move.tableEvent {L : Allowed} {s t : State} (h : Move L s t) : TableEvent L s t := by
  cases h with
  | wire | scan | trip | budget | session | take | empty | channel | idle | unowned => exact .same rfl rfl rfl
  | hold before after c => rw [State.formHold_eq]; exact .same rfl rfl rfl
  | notice p n => rw [State.notify_eq]; exact .same rfl rfl rfl
  | frees i r _ hr => split <;> exact .free i r hr rfl rfl rfl
  | make p o i hL hi hlt hd ho => exact .make p o i hL hi hlt hd ho rfl rfl rfl
  | grant i r hr => rw [State.grantSlot_eq]; exact .edit i r { r with state := .granted } hr ⟨rfl, rfl, rfl, rfl⟩ rfl rfl rfl
  | drop i r hr =>
    unfold State.dropRecord
    simp only [hr]
    cases r.state with
    | pending => exact .free i r hr rfl rfl rfl
    | granted =>
      simp only
      rw [State.sendRelease_frame]
      exact .free i r hr rfl rfl rfl
  | shed i r hr =>
    rw [State.shedRecord_frame]
    exact .edit i r { r with state := .pending, shed := min 255 (r.shed + 1) } hr ⟨rfl, rfl, rfl, rfl⟩ rfl rfl rfl
  | amount i r a hr | lower i r a hr | raise i r a hr =>
    exact .edit i r { r with amount := a } hr ⟨rfl, rfl, rfl, rfl⟩ rfl rfl rfl
  | restart =>
    refine .restart (fun i => ?_) ?_ ?_ <;> dsimp only [State.restartChannels, State.restartClaims, State.slot]
    exact Vector.getElem_ofFn _

/-- One slot of the table replaced. -/
theorem State.slot_of_set {s t : State} {i : Fin 24} {x : Slot} (h : t.slots = s.slots.set i x) (j : Fin 24) :
    t.slot j = if j = i then x else s.slot j := by
  rw [State.slot, h]
  exact State.slot_setSlot s i j x

theorem State.record_of_set {s t : State} {i : Fin 24} {x : Slot} (h : t.slots = s.slots.set i x) (j : Fin 24) :
    t.record j = if j = i then x.record else s.record j := by
  rw [State.record, State.slot_of_set h]
  split <;> rfl

theorem Slot.restart_record (x : Slot) : x.restart.record = none := by
  unfold Slot.restart
  split
  · rfl
  · next h => simpa using h

/-! ### The counts (R5) -/

theorem State.recordsOf_eq_sum (s : State) (p : Port) :
    s.recordsOf p = ((List.finRange 24).map fun i => if (s.record i).map Claim.port = some p then 1 else 0).sum := by
  simp only [State.recordsOf, length_filter_eq_sum, decide_eq_true_eq, allSlots]

/-- A slot replaced changes each port's number of records by what the slot held and holds. -/
theorem State.recordsOf_of_set {s t : State} {i : Fin 24} {x : Slot} (h : t.slots = s.slots.set i x) (p : Port) :
    t.recordsOf p + (if (s.record i).map Claim.port = some p then 1 else 0) =
      s.recordsOf p + (if x.record.map Claim.port = some p then 1 else 0) := by
  rw [State.recordsOf_eq_sum, State.recordsOf_eq_sum]
  have hsum := sum_finRange_of_update (f := fun j => if (t.record j).map Claim.port = some p then 1 else 0)
    (g := fun j => if (s.record j).map Claim.port = some p then 1 else 0) i
    (fun j hj => by simp only [State.record_of_set h, if_neg hj])
  simpa only [State.record_of_set h, if_true] using hsum

/-! ### The invariant -/

theorem State.holdsOn_eq_false {s : State} {p : Port} {c : Channel} (h : s.holdsOn p c = false) {i : Fin 24} {r : Claim}
    (hr : s.record i = some r) : ¬ (r.port = p ∧ r.channel = c) := by
  have := List.any_eq_false.mp h i (mem_allSlots i)
  simpa [hr] using this

section TableSound
variable {L : Allowed} {s t : State}

/-- A record edited in its amount, its claim state or its shed count alone leaves the table sound. -/
theorem TableSound.edit (hs : TableSound s) (hses : t.sessions = s.sessions) {i : Fin 24} {r q : Claim}
    (hr : s.record i = some r) (hq : q.port = r.port ∧ q.channel = r.channel ∧ q.cls = r.cls ∧ q.stamp = r.stamp)
    (hslots : t.slots = s.slots.set i ⟨(s.slot i).gen, some q⟩) (hc : t.counts = s.counts) (hst : t.stamp = s.stamp) :
    TableSound t := by
  obtain ⟨hport, hchannel, -, hstamp⟩ := hq
  have back : ∀ j x, t.record j = some x → ∃ y, s.record j = some y ∧ y.port = x.port ∧ y.channel = x.channel ∧
      y.stamp = x.stamp := by
    intro j x hx
    rw [State.record_of_set hslots] at hx
    split at hx
    · next e => cases hx; exact ⟨r, e ▸ hr, hport.symm, hchannel.symm, hstamp.symm⟩
    · exact ⟨x, hx, rfl, rfl, rfl⟩
  refine ⟨fun p => ?_, hst ▸ hs.stamp_le, fun j x hx => ?_, fun j k x y hx hy he => ?_, fun j k x y hx hy hp hch => ?_,
    fun j x hx => ?_⟩
  · have h := State.recordsOf_of_set hslots p
    simp only [hr, Option.map_some, hport] at h
    have hcount : t.count p = s.count p := by simp only [State.count, hc]
    rw [hcount, hs.counts p]
    omega
  · obtain ⟨y, hy, -, -, hye⟩ := back j x hx
    rw [hst, ← hye]; exact hs.stamps_below j y hy
  · obtain ⟨x', hx', -, -, hxe⟩ := back j x hx
    obtain ⟨y', hy', -, -, hye⟩ := back k y hy
    exact hs.stamps_distinct j k x' y' hx' hy' (hxe.trans (he.trans hye.symm))
  · obtain ⟨x', hx', hxp, hxc, -⟩ := back j x hx
    obtain ⟨y', hy', hyp, hyc, -⟩ := back k y hy
    exact hs.one_per_channel j k x' y' hx' hy' (hxp.trans (hp.trans hyp.symm)) (hxc.trans (hch.trans hyc.symm))
  · obtain ⟨y, hy, hyp, -, -⟩ := back j x hx
    rw [State.session, hses, ← hyp]; exact hs.owners_open j y hy

/-- A record freed leaves the table sound. -/
theorem TableSound.free (hs : TableSound s) (hses : t.sessions = s.sessions) {i : Fin 24} {r : Claim}
    (hr : s.record i = some r) (hslots : t.slots = s.slots.set i ⟨(s.slot i).gen + 1#8, none⟩)
    (hc : t.counts = s.counts.set r.port (s.count r.port - 1)) (hst : t.stamp = s.stamp) : TableSound t := by
  have back : ∀ j x, t.record j = some x → s.record j = some x := by
    intro j x hx
    rw [State.record_of_set hslots] at hx
    split at hx
    · cases hx
    · exact hx
  refine ⟨fun p => ?_, hst ▸ hs.stamp_le, fun j x hx => hst ▸ hs.stamps_below j x (back j x hx),
    fun j k x y hx hy => hs.stamps_distinct j k x y (back j x hx) (back k y hy),
    fun j k x y hx hy => hs.one_per_channel j k x y (back j x hx) (back k y hy), fun j x hx => ?_⟩
  · have h := State.recordsOf_of_set hslots p
    have hp := hs.counts p
    have hcount : t.count p = if p = r.port then s.count r.port - 1 else s.count p := by
      rw [State.count, hc]; exact PerPort.get_set ..
    rw [hcount]
    simp only [hr, Option.map_some, Option.some.injEq, Option.map_none, reduceCtorEq, if_false] at h
    by_cases e : p = r.port
    · subst e; simp only [if_true] at h ⊢; omega
    · simp only [if_neg e, if_neg (Ne.symm e)] at h ⊢; omega
  · rw [State.session, hses]; exact hs.owners_open j x (back j x hx)

/-- A new claim, on a channel on which its port has none, leaves the table sound. -/
theorem TableSound.make (hs : TableSound s) (hses : t.sessions = s.sessions) {p : Port} {o : ClaimOperands} {i : Fin 24}
    (hi : s.record i = none) (hlt : s.stamp < stampLimit) (hd : s.holdsOn p o.channel = false)
    (ho : (s.session p).state = .opened)
    (hslots : t.slots = s.slots.set i ⟨(s.slot i).gen, some ⟨p, o.channel, o.amount, o.cls, s.stamp, .pending, 0⟩⟩)
    (hc : t.counts = s.counts.set p (s.count p + 1)) (hst : t.stamp = s.stamp + 1) : TableSound t := by
  have split : ∀ j x, t.record j = some x → (j ≠ i ∧ s.record j = some x) ∨
      (j = i ∧ x.port = p ∧ x.channel = o.channel ∧ x.stamp = s.stamp) := by
    intro j x hx
    rw [State.record_of_set hslots] at hx
    split at hx
    · next e => cases hx; exact .inr ⟨e, rfl, rfl, rfl⟩
    · next e => exact .inl ⟨e, hx⟩
  refine ⟨fun q => ?_, hst ▸ hlt, fun j x hx => ?_, fun j k x y hx hy he => ?_, fun j k x y hx hy hp hch => ?_,
    fun j x hx => ?_⟩
  · have h := State.recordsOf_of_set hslots q
    have hq := hs.counts q
    have hcount : t.count q = if q = p then s.count p + 1 else s.count q := by
      rw [State.count, hc]; exact PerPort.get_set ..
    rw [hcount]
    simp only [hi, Option.map_some, Option.some.injEq, Option.map_none, reduceCtorEq, if_false] at h
    by_cases e : q = p
    · subst e; simp only [if_true] at h ⊢; omega
    · simp only [if_neg e, if_neg (Ne.symm e)] at h ⊢; omega
  · rcases split j x hx with ⟨-, hx⟩ | ⟨-, -, -, he⟩
    · rw [hst]; exact Nat.lt_succ_of_lt (hs.stamps_below j x hx)
    · rw [hst, he]; exact Nat.lt_succ_self _
  · rcases split j x hx with ⟨-, hx⟩ | ⟨rfl, -, -, hxs⟩ <;> rcases split k y hy with ⟨-, hy⟩ | ⟨rfl, -, -, hys⟩
    · exact hs.stamps_distinct j k x y hx hy he
    · exact absurd (hs.stamps_below j x hx) (by omega)
    · exact absurd (hs.stamps_below k y hy) (by omega)
    · rfl
  · rcases split j x hx with ⟨-, hx⟩ | ⟨rfl, hxp, hxc, -⟩ <;> rcases split k y hy with ⟨-, hy⟩ | ⟨rfl, hyp, hyc, -⟩
    · exact hs.one_per_channel j k x y hx hy hp hch
    · exact absurd ⟨hp.trans hyp, hch.trans hyc⟩ (State.holdsOn_eq_false hd hx)
    · exact absurd ⟨hp.symm.trans hxp, hch.symm.trans hxc⟩ (State.holdsOn_eq_false hd hy)
    · rfl
  · rw [State.session, hses]
    rcases split j x hx with ⟨-, hx⟩ | ⟨-, hxp, -, -⟩
    · exact hs.owners_open j x hx
    · rw [hxp]; exact ho

/-- A table without a record, its counts and its stamp counter 0, is sound. -/
theorem TableSound.of_empty (h : ∀ i, t.record i = none) (hc : ∀ p, t.count p = 0) (hst : t.stamp = 0) :
    TableSound t := by
  have absent : ∀ i r, t.record i ≠ some r := fun i r hr => by rw [h i] at hr; cases hr
  refine ⟨fun p => ?_, by rw [hst]; decide, fun i r hr => absurd hr (absent i r), fun i _ r _ hr => absurd hr (absent i r),
    fun i _ r _ hr => absurd hr (absent i r), fun i r hr => absurd hr (absent i r)⟩
  rw [hc, State.recordsOf_eq_sum]
  simp [h]

/-- A session's move leaves the session of every record's port OPEN. -/
theorem SessionMove.keeps_open {p : Port} {x : Session} (h : SessionMove L s p x)
    (hs : ∀ i r, s.record i = some r → (s.session r.port).state = .opened) {i : Fin 24} {r : Claim}
    (hr : s.record i = some r) (hp : r.port = p) : x.state = .opened := by
  have ho : (s.session p).state = .opened := hp ▸ hs i r hr
  cases h with
  | soft | tick | warn | renews | preloads | quota => exact ho
  | opens => rfl
  | ends _ _ _ _ hnone => exact absurd hp (hnone i r hr)
  | closes h => rw [h] at ho; cases ho

theorem Move.keeps_table (hs : TableSound s) (h : Move L s t) : TableSound t := by
  rcases h.sessions_cases with hses | ⟨p, x, hx, rfl⟩
  · cases h.tableEvent with
    | same hslots hc hst =>
      have hr : ∀ i, t.record i = s.record i := fun i => by simp only [State.record, State.slot, hslots]
      refine ⟨fun p => ?_, hst ▸ hs.stamp_le, ?_, ?_, ?_, ?_⟩
      · simpa only [State.count, State.recordsOf, hc, hr] using hs.counts p
      · simpa only [hr, hst] using hs.stamps_below
      · simpa only [hr] using hs.stamps_distinct
      · simpa only [hr] using hs.one_per_channel
      · simpa only [hr, State.session, hses] using hs.owners_open
    | edit i r q hr hq hslots hc hst => exact hs.edit hses hr hq hslots hc hst
    | free i r hr hslots hc hst => exact hs.free hses hr hslots hc hst
    | make p o i _ hi hlt hd ho hslots hc hst => exact hs.make hses hi hlt hd ho hslots hc hst
    | restart hslots hc hst =>
      refine .of_empty (fun i => ?_) (fun p => ?_) hst
      · rw [State.record, hslots, Slot.restart_record]
      · rw [State.count, hc, PerPort.get_const]
  · refine ⟨hs.counts, hs.stamp_le, hs.stamps_below, hs.stamps_distinct, hs.one_per_channel, fun i r hr => ?_⟩
    rw [State.session_setSession]
    split
    · next e => exact hx.keeps_open hs.owners_open hr e
    · exact hs.owners_open i r hr

end TableSound

theorem TableSound.initial (s : State) (cause : ResetCause) : TableSound (s.initial cause) := by
  refine .of_empty (fun i => ?_) (fun p => ?_) ?_
  · simp [State.initial, State.record, State.slot, State.reset, Slot.reset]
  · exact PerPort.get_const _ p
  · dsimp only [State.initial, State.reset]

/-- Settles O11: the table is empty after a reset, its release leaves it, and each move makes of it what one of its events
makes. -/
theorem claimTableStaysSound : Obligations.ClaimTableStaysSound := by
  refine step_keeps (fun s q h => ⟨h.counts, h.stamp_le, h.stamps_below, h.stamps_distinct, h.one_per_channel, h.owners_open⟩)
    (exec_keeps TableSound.initial (fun s sup flt derate h => ?_)
      fun c s t _ h _ hm => hm.keeps (P := TableSound) (fun _ _ => Move.keeps_table) h)
  have hopen : ∀ p, ((s.releaseReset sup flt derate).session p).state = (s.session p).state := by
    intro p
    rw [State.session, State.releaseReset_eq]
    change ((s.sampleStraps sup).session p).state = _
    rw [State.session_sampleStraps]
    rfl
  refine ⟨fun p => ?_, ?_, ?_, ?_, ?_, fun i r hr => (hopen r.port).trans (h.owners_open i r ?_)⟩
  · rw [State.count, State.recordsOf, State.releaseReset_eq]; exact h.counts p
  · rw [State.releaseReset_eq]; exact h.stamp_le
  · rw [State.releaseReset_eq]; exact h.stamps_below
  · rw [State.releaseReset_eq]; exact h.stamps_distinct
  · rw [State.releaseReset_eq]; exact h.one_per_channel
  · rw [State.releaseReset_eq] at hr; exact hr

/-! ### What a record keeps for life (R1, R2) -/

/-- What a slot that holds `x` can have become, where no claim is made: it is as it was up to the record's amount, claim
state and shed count, or its record is freed. -/
def Slot.Kept (x y : Slot) : Prop :=
  (∀ r, x.record = some r → y = ⟨x.gen + 1#8, none⟩ ∨
    ∃ q, y = ⟨x.gen, some q⟩ ∧ q.port = r.port ∧ q.channel = r.channel ∧ q.cls = r.cls ∧ q.stamp = r.stamp) ∧
  (x.record = none → y = x)

theorem Slot.Kept.refl (x : Slot) : x.Kept x := by
  refine ⟨fun r hr => .inr ⟨r, ?_, rfl, rfl, rfl, rfl⟩, fun _ => rfl⟩
  cases x
  simp only at hr
  rw [hr]

theorem Slot.Kept.trans {x y z : Slot} (h : x.Kept y) (h' : y.Kept z) : x.Kept z := by
  refine ⟨fun r hr => ?_, fun hr => ?_⟩
  · rcases h.1 r hr with rfl | ⟨q, rfl, hq⟩
    · exact .inl (h'.2 rfl)
    · rcases h'.1 q rfl with rfl | ⟨w, rfl, hw⟩
      · exact .inl rfl
      · exact .inr ⟨w, rfl, hw.1.trans hq.1, hw.2.1.trans hq.2.1, hw.2.2.1.trans hq.2.2.1, hw.2.2.2.trans hq.2.2.2⟩
  · have hy := h.2 hr
    subst hy
    exact h'.2 hr

/-- Where no claim is made, a move keeps every slot in this sense. -/
theorem Move.keeps_slot {L : Allowed} (hL : ¬ L.makes) {s t : State} (h : Move L s t) (i : Fin 24) :
    (s.slot i).Kept (t.slot i) := by
  cases h.tableEvent with
  | same hs => rw [State.slot, State.slot, hs]; exact .refl _
  | edit j r q hr hq hs =>
    rw [State.slot_of_set hs]
    split
    · next e =>
      subst e
      refine ⟨fun x hx => .inr ⟨q, rfl, ?_⟩, fun hn => ?_⟩
      · cases Option.some.inj (hr.symm.trans hx); exact hq
      · cases hr.symm.trans hn
    · exact .refl _
  | free j r hr hs =>
    rw [State.slot_of_set hs]
    split
    · next e => subst e; exact ⟨fun _ _ => .inl rfl, fun hn => by cases hr.symm.trans hn⟩
    · exact .refl _
  | make p o j hm => exact absurd hm hL
  | restart hs =>
    rw [hs]
    unfold Slot.restart
    refine ⟨fun r hr => .inl ?_, fun hn => ?_⟩
    · simp [hr]
    · simp [hn]

theorem Moves.keeps_slot {L : Allowed} (hL : ¬ L.makes) {s t : State} (h : Moves L s t) (i : Fin 24) :
    (s.slot i).Kept (t.slot i) :=
  h.keeps (P := fun u => (s.slot i).Kept (u.slot i)) (fun _ _ hu hm => hu.trans (hm.keeps_slot hL i)) (.refl _)

/-- CLAIM leaves every record as it is but for a grant, and keeps the generation of the slot that it fills (R9). -/
theorem claimOwn_slot (p : Port) (o : ClaimOperands) (s : State) (i : Fin 24) :
    ((claimOwn p o s).1.slot i).gen = (s.slot i).gen ∧
      ∀ r, s.record i = some r → ∃ q, (claimOwn p o s).1.record i = some q ∧ q.port = r.port ∧ q.channel = r.channel ∧
        q.cls = r.cls ∧ q.stamp = r.stamp := by
  unfold claimOwn
  split
  · exact ⟨rfl, fun r hr => ⟨r, hr, rfl, rfl, rfl, rfl⟩⟩
  · next j hj =>
    have hfree : s.record j = none := (State.admitClaim_ok hj).1
    have made : ((s.makeClaim p o j).slot i).gen = (s.slot i).gen ∧ (i ≠ j → (s.makeClaim p o j).record i = s.record i) := by
      have hs : (s.makeClaim p o j).slots = s.slots.set j _ := rfl
      rw [State.slot_of_set hs, State.record_of_set hs]
      exact ⟨by split <;> simp_all, fun e => if_neg e⟩
    obtain ⟨hgen, hrec⟩ := (s.makeClaim p o j).allocationPass_slot i
    refine ⟨hgen.trans made.1, fun r hr => ?_⟩
    have hij : i ≠ j := by rintro rfl; rw [hfree] at hr; cases hr
    rw [made.2 hij] at hrec
    rcases hrec with h | ⟨q, hq, -, h⟩
    · exact ⟨r, h.trans hr, rfl, rfl, rfl, rfl⟩
    · cases hr.symm.trans hq
      exact ⟨_, h, rfl, rfl, rfl, rfl⟩

/-- Settles O15: CLAIM by its own two parts, and every other command by its moves. -/
theorem recordsKeepTheirHandleAndStamp : Obligations.RecordsKeepTheirHandleAndStamp := by
  intro c s t i hc h
  by_cases hclaim : c = .claim
  · subst hclaim
    have ht : s.execute 0x10#8 claimOperands .openOnly false claimOwn = t := Host.Outcome.next.inj h
    have slot : (t.slot i).gen = (s.slot i).gen ∧
        ∀ r, s.record i = some r → ∃ q, t.record i = some q ∧ q.port = r.port ∧ q.channel = r.channel ∧
          q.cls = r.cls ∧ q.stamp = r.stamp := by
      have same : (s.slot i).gen = (s.slot i).gen ∧ ∀ r, s.record i = some r → ∃ q, s.record i = some q ∧
          q.port = r.port ∧ q.channel = r.channel ∧ q.cls = r.cls ∧ q.stamp = r.stamp :=
        ⟨rfl, fun r hr => ⟨r, hr, rfl, rfl, rfl, rfl⟩⟩
      rw [← ht]
      rcases State.execute_cases 0x10#8 claimOperands .openOnly false claimOwn s with h | ⟨p, d, -, -, h⟩ <;> rw [h]
      · exact same
      · rcases State.carryOut_cases claimOperands .openOnly false claimOwn (s.takeFrom p) p d.payload with
          ⟨st, -, h⟩ | ⟨o, -, -, -, h⟩ <;> rw [h]
        · exact same
        · exact claimOwn_slot p o (s.takeFrom p) i
    refine ⟨fun r hr => .inr ?_, fun _ => ⟨slot.1, .inr rfl⟩⟩
    obtain ⟨q, hq, hkept⟩ := slot.2 r hr
    refine ⟨q, ?_, hkept⟩
    rw [← slot.1, ← hq]
    rfl
  · have kept := (moves_of_exec hc h).keeps_slot hclaim i
    exact ⟨kept.1, fun hn => by rw [State.record, kept.2 hn]; exact ⟨rfl, .inl hn⟩⟩

end Sys2Proof.Machine
end

section
/-! SUPPORT. The settings: what each move leaves of them, and that without an OPEN supervisor nothing but a cycle start
changes one; and the invariants at reset. -/

namespace Sys2Proof.Machine

/-- The settings outside the channel and session records, one after another. -/
def State.commonSettings (s : State) : (Nat × Option Nat × Nat × Nat) × (Nat × Nat × Polarity) × Vector Polarity 4 ×
    (Fin 4 → BitVec 10 × BitVec 12 × GroupMode) :=
  ((s.scan.period, s.scan.pendingPeriod, s.scan.railLimit, s.scan.railGain),
    (s.budget.normal, s.budget.derated, s.budget.deratePolarity), s.trip.fltPolarity,
    fun g => ((s.group g).inputs, (s.group g).targets, (s.group g).mode))

section Settings
variable {L : Allowed} {s t : State}

/-- No event of a loop changes the configuration (R45). -/
theorem LoopEvent.config {r x : ChannelRecord} (h : LoopEvent L r x) (hL : ¬ L.settings) : x.config = r.config := by
  cases h with
  | same | clears | restarts => rfl
  | measures m owner | trips m owner => exact (r.measure_keeps m owner).1
  | grants h amount => exact (r.grant_keeps h amount).1
  | releases amount => exact (r.release_keeps amount).1
  | retargets amount => unfold ChannelRecord.retarget; split <;> rfl
  | holds => exact r.whenHeld_keeps.1
  | resumes => exact r.whenResumed_keeps.1
  | loops _ h | limits _ h => exact absurd h hL

theorem SessionMove.settings {p : Port} {x : Session} (h : SessionMove L s p x) (hL : ¬ L.settings) :
    x.quota = (s.session p).quota ∧ x.floor = (s.session p).floor := by
  cases h with
  | quota _ _ h => exact absurd h hL
  | _ => exact ⟨rfl, rfl⟩

theorem Move.keeps_quota (h : Move L s t) (hL : ¬ L.settings) (p : Port) :
    (t.session p).quota = (s.session p).quota ∧ (t.session p).floor = (s.session p).floor := by
  rcases h.sessions_cases with h | ⟨q, x, hx, rfl⟩
  · simp only [State.session, h, and_self]
  · rw [State.session_setSession]
    split
    · next e => exact e ▸ hx.settings hL
    · exact ⟨rfl, rfl⟩

theorem Move.keeps_commonSettings (h : Move L s t) (hL : ¬ L.settings) : t.commonSettings = s.commonSettings := by
  cases h with
  | wire | session | take | empty | channel | idle | unowned | make | amount | lower | raise => rfl
  | scan x hs =>
    obtain ⟨h1, h2, h3, h4⟩ := hs.resolve_left hL
    simp only [State.commonSettings, State.setScan_scan, h1, h2, h3, h4]
    rfl
  | trip x _ hs =>
    obtain ⟨hp, hg⟩ := hs.resolve_left hL
    have hgroups : ∀ g, (s.setTrip x).group g = x.groups[g] := fun _ => rfl
    simp only [State.commonSettings, State.setTrip_trip, hp, hgroups, hg]
    rfl
  | budget b _ _ _ hs =>
    obtain ⟨h1, h2, h3⟩ := hs.resolve_left hL
    simp only [State.commonSettings, h1, h2, h3]
    rfl
  | hold before after c => rw [State.formHold_eq]; rfl
  | notice p n => rw [State.notify_eq]; rfl
  | frees i r => split <;> rfl
  | grant i r => rw [State.grantSlot_eq]; rfl
  | drop i r => rw [State.dropRecord_frame]; rfl
  | shed i r => rw [State.shedRecord_frame]; rfl
  | restart => dsimp only [State.restartChannels, State.restartClaims, State.commonSettings, State.group]

end Settings

/-- Settles O14: a cycle start by itself, and every other command by its moves, none of which may change a setting. -/
theorem onlyAnOpenSupervisorChangesSettings : Obligations.OnlyAnOpenSupervisorChangesSettings := by
  intro c s t hc hsup h
  by_cases hcycle : c = .scanCycleStart
  · subst hcycle
    have ht : (if s.resetHeld then s else s.setScan s.scan.startCycle) = t := Host.Outcome.next.inj h
    cases hr : s.resetHeld <;> simp only [hr, if_true, if_false, Bool.false_eq_true] at ht <;> subst ht <;>
      constructor <;> simp [hr, Scanner.startCycle, State.group]
  · have hL : ¬ (allowedFor c s).settings := fun h => h.elim hcycle fun ⟨p, hp⟩ => hsup p hp
    have hm := moves_of_exec hc h
    have hcommon : t.commonSettings = s.commonSettings :=
      hm.keeps (P := fun u => u.commonSettings = s.commonSettings)
        (fun _ _ hu hv => (hv.keeps_commonSettings hL).trans hu) rfl
    have hconfig : ∀ d, (t.channel d).config = (s.channel d).config := fun d =>
      hm.keeps (P := fun u => (u.channel d).config = (s.channel d).config)
        (fun _ _ hu hv => ((hv.loopEvent d).config hL).trans hu) rfl
    have hquota : ∀ p, (t.session p).quota = (s.session p).quota ∧ (t.session p).floor = (s.session p).floor := fun p =>
      hm.keeps (P := fun u => (u.session p).quota = (s.session p).quota ∧ (u.session p).floor = (s.session p).floor)
        (fun _ _ hu hv => ⟨(hv.keeps_quota hL p).1.trans hu.1, (hv.keeps_quota hL p).2.trans hu.2⟩) ⟨rfl, rfl⟩
    simp only [State.commonSettings, Prod.mk.injEq, funext_iff] at hcommon
    obtain ⟨⟨hperiod, hpending, hlimit, hgain⟩, ⟨hnormal, hderated, hpolarity⟩, hflt, hgroups⟩ := hcommon
    exact { period := by simpa [hcycle] using hperiod, pendingPeriod := by simpa [hcycle] using hpending,
            normal := hnormal, derated := hderated, deratePolarity := hpolarity, fltPolarity := hflt, config := hconfig,
            railLimit := hlimit, railGain := hgain, groupInputs := fun g => (hgroups g).1,
            groupTargets := fun g => (hgroups g).2.1, groupMode := fun g => (hgroups g).2.2,
            quota := fun p => (hquota p).1, floor := fun p => (hquota p).2 }

end Sys2Proof.Machine
end

section
/-! SUPPORT. The invariant of the granted sum (R23, R25): what a move makes of it, what shedding leaves of it, and the three
commands that form the effective budget anew. -/

namespace Sys2Proof.Machine

/-! ### The amounts of GRANTED records -/

/-- The amount that a slot's record adds to the granted sum. -/
def amountGranted : Option Claim → Nat
  | some r => if r.state = .granted then r.amount else 0
  | none => 0

theorem State.grantedAmount_eq (s : State) (i : Fin 24) : s.grantedAmount i = amountGranted (s.record i) := by
  unfold State.grantedAmount amountGranted
  cases s.record i <;> rfl

theorem amountGranted_of_granted {r : Claim} (h : r.state = .granted) : amountGranted (some r) = r.amount := if_pos h

theorem amountGranted_of_pending {r : Claim} (h : r.state = .pending) : amountGranted (some r) = 0 :=
  if_neg (by rw [h]; decide)

/-- One slot replaced changes the total by what the slot held and holds. -/
theorem State.grantedTotal_of_set {s t : State} {i : Fin 24} {x : Slot} (h : t.slots = s.slots.set i x) :
    t.grantedTotal + amountGranted (s.record i) = s.grantedTotal + amountGranted x.record := by
  have hsum := sum_finRange_of_update (f := t.grantedAmount) (g := s.grantedAmount) i
    (fun j hj => by simp only [State.grantedAmount_eq, State.record_of_set h, if_neg hj])
  simp only [State.grantedAmount_eq, State.record_of_set h, if_true] at hsum
  exact hsum

theorem State.grantedTotal_eq (s : State) :
    s.grantedTotal = (allSlots.map fun i => amountGranted (s.record i)).sum := by
  rw [State.grantedTotal, funext s.grantedAmount_eq]

theorem State.grantedTotal_eq_zero {s : State} (h : ∀ i, amountGranted (s.record i) = 0) : s.grantedTotal = 0 := by
  simp [State.grantedTotal_eq, h]

/-- What a GRANTED record adds is within the total. -/
theorem State.amountGranted_le_total (s : State) (i : Fin 24) : amountGranted (s.record i) ≤ s.grantedTotal := by
  rw [State.grantedTotal, ← State.grantedAmount_eq]
  exact List.le_sum_of_mem (List.mem_map_of_mem (mem_allSlots i))

/-! ### What a move makes of the granted sum -/

/-- What can become of the granted sum and of the records that it is made of. -/
inductive GrantedEvent (s t : State) : Prop where
  | same (hs : t.slots = s.slots) (hg : t.budget.granted = s.budget.granted)
  | set (i : Fin 24) (x : Slot) (hs : t.slots = s.slots.set i x)
      (hg : amountGranted (s.record i) ≤ s.budget.granted →
        t.budget.granted + amountGranted (s.record i) = s.budget.granted + amountGranted x.record)
      (hw : t.budget.granted ≤ s.budget.granted ∨ t.budget.granted ≤ s.budget.effective)
  | restart (hs : ∀ i, t.record i = none) (hg : t.budget.granted = 0)

theorem Move.grantedEvent {L : Allowed} {s t : State} (h : Move L s t) : GrantedEvent s t := by
  cases h with
  | wire | scan | trip | session | take | empty | channel | idle | unowned => exact .same rfl rfl
  | budget b _ hg => exact .same rfl hg
  | hold before after c => rw [State.formHold_eq]; exact .same rfl rfl
  | notice p n => rw [State.notify_eq]; exact .same rfl rfl
  | frees i r _ hr =>
    split
    · next hg =>
      refine .set i _ rfl (fun hle => ?_) (.inl (Nat.sub_le _ _))
      rw [hr, amountGranted_of_granted hg] at hle ⊢
      exact Nat.sub_add_cancel hle
    · next hg => exact .set i _ rfl (fun _ => by simp [hr, amountGranted, hg]; rfl) (.inl le_rfl)
  | make p o i _ hi => exact .set i _ rfl (fun _ => by simp [hi, amountGranted]; rfl) (.inl le_rfl)
  | grant i r hr hp _ hh =>
    rw [State.grantSlot_eq]
    refine .set i ⟨(s.slot i).gen, some { r with state := .granted }⟩ rfl (fun _ => ?_) (.inr ?_)
    · simp [hr, amountGranted, hp]
    · simp only [State.headroom] at hh ⊢
      omega
  | drop i r hr =>
    unfold State.dropRecord
    simp only [hr]
    split
    · next hp => exact .set i _ rfl (fun _ => by simp [hr, amountGranted, hp]; rfl) (.inl le_rfl)
    · next hg =>
      rw [State.sendRelease_frame]
      refine .set i _ rfl (fun hle => ?_) (.inl (Nat.sub_le _ _))
      rw [hr, amountGranted_of_granted hg] at hle ⊢
      exact Nat.sub_add_cancel hle
  | shed i r hr hg =>
    rw [State.shedRecord_frame]
    refine .set i ⟨(s.slot i).gen, some { r with state := .pending, shed := min 255 (r.shed + 1) }⟩ rfl (fun hle => ?_)
      (.inl (Nat.sub_le _ _))
    rw [hr, amountGranted_of_granted hg] at hle ⊢
    exact Nat.sub_add_cancel hle
  | amount i r a hr hp =>
    exact .set i ⟨(s.slot i).gen, some { r with amount := a }⟩ rfl (fun _ => by simp [hr, amountGranted, hp, State.setAmount])
      (.inl le_rfl)
  | lower i r a hr hg ha =>
    refine .set i ⟨(s.slot i).gen, some { r with amount := a }⟩ rfl (fun hle => ?_) (.inl (Nat.sub_le _ _))
    rw [hr, amountGranted_of_granted hg] at hle ⊢
    rw [amountGranted_of_granted (r := { r with amount := a }) hg]
    change s.budget.granted - (r.amount - a) + r.amount = s.budget.granted + a
    omega
  | raise i r a hr hg ha hh =>
    refine .set i ⟨(s.slot i).gen, some { r with amount := a }⟩ rfl (fun hle => ?_) (.inr ?_)
    · rw [hr, amountGranted_of_granted hg] at hle ⊢
      rw [amountGranted_of_granted (r := { r with amount := a }) hg]
      change s.budget.granted + (a - r.amount) + r.amount = s.budget.granted + a
      omega
    · change s.budget.granted + (a - r.amount) ≤ s.budget.effective
      simp only [State.headroom] at hh
      omega
  | restart =>
    refine .restart (fun i => ?_) ?_ <;> dsimp only [State.restartChannels, State.restartClaims, State.record, State.slot]
    rw [show (Vector.ofFn fun i => (s.slots[i]).restart)[i] = (s.slots[i]).restart from Vector.getElem_ofFn _]
    exact Slot.restart_record _

/-- The granted sum is exact (R25). -/
def State.GrantedExact (s : State) : Prop := s.budget.granted = s.grantedTotal

theorem State.grantedTotal_congr {s t : State} (h : t.slots = s.slots) : t.grantedTotal = s.grantedTotal := by
  simp only [State.grantedTotal_eq, State.record, State.slot, h]

theorem Move.keeps_grantedExact {L : Allowed} {s t : State} (hs : s.GrantedExact) (h : Move L s t) : t.GrantedExact := by
  unfold State.GrantedExact at hs ⊢
  cases h.grantedEvent with
  | same hslots hg => rw [hg, hs, State.grantedTotal_congr hslots]
  | set i x hslots hg =>
    have := hg (hs ▸ s.amountGranted_le_total i)
    have := State.grantedTotal_of_set hslots
    omega
  | restart hslots hg => rw [hg, State.grantedTotal_eq_zero fun i => by rw [hslots]; rfl]

/-- The effective budget is as formed, and the granted sum exact and within it (R23, R25). -/
structure State.BudgetKept (s : State) : Prop where
  granted : s.GrantedExact
  effective : s.budget.effective = s.budget.formed
  within : s.budget.granted ≤ s.budget.effective

/-- What forms the effective budget is kept by every move that may not reform it. -/
theorem Move.keeps_formed {L : Allowed} (hL : ¬ L.reforms) {s t : State} (h : Move L s t) :
    t.budget.effective = s.budget.effective ∧ t.budget.formed = s.budget.formed := by
  cases h with
  | wire | scan | trip | session | take | empty | channel | idle | unowned | make | amount | lower | raise => exact ⟨rfl, rfl⟩
  | budget b h => exact absurd h hL
  | hold before after c => rw [State.formHold_eq]; exact ⟨rfl, rfl⟩
  | notice p n => rw [State.notify_eq]; exact ⟨rfl, rfl⟩
  | frees i r => split <;> exact ⟨rfl, rfl⟩
  | grant i r => rw [State.grantSlot_eq]; exact ⟨rfl, rfl⟩
  | drop i r => rw [State.dropRecord_frame]; exact ⟨rfl, rfl⟩
  | shed i r => rw [State.shedRecord_frame]; exact ⟨rfl, rfl⟩
  | restart => exact ⟨by dsimp only [State.restartChannels, State.restartClaims],
      by dsimp only [State.restartChannels, State.restartClaims]; rfl⟩

theorem Move.keeps_budget {L : Allowed} (hL : ¬ L.reforms) {s t : State} (hs : s.BudgetKept) (h : Move L s t) :
    t.BudgetKept := by
  obtain ⟨heff, hformed⟩ := h.keeps_formed hL
  refine ⟨h.keeps_grantedExact hs.granted, by rw [heff, hformed, hs.effective], ?_⟩
  have hw := hs.within
  rw [heff]
  cases h.grantedEvent with
  | same _ hg => omega
  | set i x _ _ hle => omega
  | restart _ hg => omega

theorem Moves.keeps_budget {L : Allowed} (hL : ¬ L.reforms) {s t : State} (h : Moves L s t) (hs : s.BudgetKept) :
    t.BudgetKept := h.keeps (P := State.BudgetKept) (fun _ _ => Move.keeps_budget hL) hs

/-! ### Shedding brings the granted sum within the effective budget (R33) -/

/-- The label of moves that change the budgets in no way. -/
def Allowed.noReform : Allowed := ⟨True, True, True, False, True⟩

theorem State.shedRecord_recordIs (s : State) (i : Fin 24) (r : Claim) (j : Fin 24) :
    (s.shedRecord i r).recordIs .granted j = (s.recordIs .granted j && decide (j ≠ i)) := by
  have hslots : (s.shedRecord i r).slots =
      s.slots.set i ⟨(s.slot i).gen, some { r with state := .pending, shed := min 255 (r.shed + 1) }⟩ := by
    rw [State.shedRecord_frame]
  unfold State.recordIs
  rw [State.record_of_set hslots]
  by_cases e : j = i <;> simp [e]

theorem State.shedSlot_recordIs (s : State) (i j : Fin 24) :
    (s.shedSlot i).recordIs .granted j = (s.recordIs .granted j && decide (j ≠ i)) := by
  have unmoved : s.recordIs .granted i = false → s.recordIs .granted j = (s.recordIs .granted j && decide (j ≠ i)) := by
    intro h
    by_cases e : j = i <;> simp [e, h]
  unfold State.shedSlot
  split
  · next r hr =>
    split
    · exact s.shedRecord_recordIs i r j
    · next hg => exact unmoved (by simp [State.recordIs, hr, hg])
  · next hr => exact unmoved (by simp [State.recordIs, hr])

theorem Moves.shedSlot {L : Allowed} {s : State} (i : Fin 24) : Moves L s (s.shedSlot i) := by
  unfold State.shedSlot
  split
  · next r hr =>
    split
    · next hg => exact (Move.shed i r hr hg).run
    · exact .refl
  · exact .refl

theorem State.shedWalk_within {s : State} (hs : s.GrantedExact) {l : List (Fin 24)}
    (hl : ∀ i, s.recordIs .granted i = true → i ∈ l) : (s.shedWalk l).budget.granted ≤ (s.shedWalk l).budget.effective := by
  induction l generalizing s with
  | nil =>
    have hnone : ∀ i, amountGranted (s.record i) = 0 := by
      intro i
      have hi : s.recordIs .granted i ≠ true := fun h => absurd (hl i h) (List.not_mem_nil)
      cases hr : s.record i with
      | none => rfl
      | some r => exact if_neg fun hg => hi (by simp [State.recordIs, hr, hg])
    have hs : s.budget.granted = s.grantedTotal := hs
    rw [State.grantedTotal_eq_zero hnone] at hs
    exact hs ▸ Nat.zero_le _
  | cons i rest ih =>
    unfold State.shedWalk
    split
    · refine ih ((Moves.shedSlot (L := .noReform) i).keeps (P := State.GrantedExact) (fun _ _ => Move.keeps_grantedExact) hs)
        fun j hj => ?_
      rw [State.shedSlot_recordIs, Bool.and_eq_true, decide_eq_true_eq] at hj
      exact (List.mem_cons.mp (hl j hj.1)).resolve_left hj.2
    · next h => exact not_lt.mp h

theorem State.mem_shedOrder (s : State) (i : Fin 24) : i ∈ s.shedOrder ↔ s.recordIs .granted i = true := by
  rw [State.shedOrder, List.mem_reverse, (s.inWaitOrder_perm _).mem_iff, List.mem_filter]
  exact and_iff_right (mem_allSlots i)

theorem State.shed_within {s : State} (hs : s.GrantedExact) : s.shed.budget.granted ≤ s.shed.budget.effective :=
  State.shedWalk_within hs fun i hi => (s.mem_shedOrder i).mpr hi

/-! ### The budget formed anew (R21, R22) -/

/-- Where the granted sum is exact, and the action sheds or the budget that is formed covers it. -/
theorem State.BudgetKept.reform {s : State} (hs : s.GrantedExact) {mayShed : Bool}
    (h : mayShed = true ∨ s.budget.granted ≤ s.budget.formed) : (s.reformBudget mayShed).BudgetKept := by
  have formed : ∀ u : State, u.BudgetKept → (if s.budget.formed = s.budget.effective then u else u.notifyBudget).BudgetKept := by
    intro u hu
    split
    · exact hu
    · exact (Moves.notifyBudget (L := .noReform)).keeps_budget id hu
  refine (Moves.allocationPass (L := .noReform)).keeps_budget id (formed _ ?_)
  cases hshed : mayShed with
  | false => exact ⟨hs, rfl, h.resolve_left (by simp [hshed])⟩
  | true =>
    let u : State := { s with budget := { s.budget with effective := s.budget.formed } }
    refine ⟨(Moves.shed (L := .noReform)).keeps (P := State.GrantedExact) (fun _ _ => Move.keeps_grantedExact) (s := u) hs, ?_,
      State.shed_within (s := u) hs⟩
    change u.shed.budget.effective = u.shed.budget.formed
    rw [State.shed_frame]
    rfl

theorem Budget.formed_le (b : Budget) : b.formed ≤ b.normal := by
  unfold Budget.formed
  split
  · exact min_le_left _ _
  · exact le_rfl

theorem State.BudgetKept.derateEvent {s : State} (hs : s.BudgetKept) (on : Bool) : (s.derateEvent on).BudgetKept := by
  refine .reform (s := { s with budget := { s.budget with derateOn := on } }) hs.granted ?_
  cases on with
  | true => exact .inl rfl
  | false => exact .inr (hs.within.trans (hs.effective.le.trans s.budget.formed_le))

theorem State.BudgetKept.derateLevel {s : State} (hs : s.BudgetKept) (level : Bool) : (s.derateLevel level).BudgetKept := by
  have stored : State.BudgetKept { s with budget := { s.budget with derateLevel := level } } :=
    ⟨hs.granted, hs.effective, hs.within⟩
  unfold State.derateLevel
  simp only
  split
  · exact stored
  · exact stored.derateEvent _

theorem State.BudgetKept.setPinsOwn {s : State} (hs : s.BudgetKept) (p : Port) (o : PinOperands) :
    (setPinsOwn p o s).1.BudgetKept := by
  have stored : (s.storePolarities o).BudgetKept := ⟨hs.granted, hs.effective, hs.within⟩
  have counted : (s.storePolarities o).countPinChoice.BudgetKept := by
    unfold State.countPinChoice
    split
    · exact ⟨hs.granted, hs.effective, hs.within⟩
    · exact stored
  have taken : ∀ l, ((s.storePolarities o).countPinChoice.takePins l).BudgetKept := fun l =>
    (Moves.takePins (L := .noReform) trivial l).keeps_budget id counted
  unfold Machine.setPinsOwn
  simp only
  split
  · split
    · exact (Moves.allocationPass (L := .noReform)).keeps_budget id (taken _)
    · exact taken _
  · exact (taken _).derateEvent _

/-- What the wire side does not bear on, and every command's own effect keeps, the executor's step keeps. -/
theorem State.execute_keeps {P : State → Prop} (hP : ∀ s o : State, P s → P (s.onto o)) {α : Type} {opcode : Byte}
    {decode : List Byte → Option α} {gate : Gate} {sup : Bool} {own : Port → α → State → State × Reply}
    (hown : ∀ p a s, P s → P (own p a s).1) {s : State} (hs : P s) : P (s.execute opcode decode gate sup own) := by
  rcases State.execute_cases opcode decode gate sup own s with h | ⟨p, c, -, -, h⟩ <;> rw [h]
  · exact hs
  · refine hP _ (answer p c _) ?_
    rcases State.carryOut_cases decode gate sup own (s.takeFrom p) p c.payload with ⟨st, -, h⟩ | ⟨a, -, -, -, h⟩ <;> rw [h]
    · exact hP s (s.takeFrom p) hs
    · exact hown p a _ (hP s (s.takeFrom p) hs)

theorem State.BudgetKept.onto {s : State} (o : State) (hs : s.BudgetKept) : (s.onto o).BudgetKept :=
  ⟨hs.granted, hs.effective, hs.within⟩

/-- The commands that form the effective budget anew. -/
theorem State.BudgetKept.exec_reforms {c : Instr} (hc : reformsBudget c = true) {s t : State} (hs : s.BudgetKept)
    (h : exec c s = .next t) : t.BudgetKept := by
  cases c with
  | derateEvent level =>
    have ht : (if s.resetHeld then s else s.derateLevel level) = t := Host.Outcome.next.inj h
    rw [← ht]
    split
    · exact hs
    · exact hs.derateLevel level
  | setBudget =>
    have ht : s.execute 0x40#8 budgetOperands .openOnly true setBudgetOwn = t := Host.Outcome.next.inj h
    rw [← ht]
    exact State.execute_keeps (fun _ o h => h.onto o) (fun _ o s h =>
      State.BudgetKept.reform (s := { s with budget := { s.budget with normal := o.1, derated := o.2 } }) h.granted (.inl rfl)) hs
  | setPins =>
    have ht : s.execute 0x48#8 pinOperands .openOnly true Machine.setPinsOwn = t := Host.Outcome.next.inj h
    rw [← ht]
    exact State.execute_keeps (fun _ o h => h.onto o) (fun p o _ h => h.setPinsOwn p o) hs
  | _ => cases hc

theorem State.BudgetKept.initial (s : State) (cause : ResetCause) : (s.initial cause).BudgetKept := by
  refine ⟨?_, by dsimp only [State.initial]; rfl, by dsimp only [State.initial]; exact le_rfl⟩
  refine Eq.trans ?_ (State.grantedTotal_eq_zero fun i => ?_).symm
  · dsimp only [State.initial]; rfl
  · simp [State.initial, State.record, State.slot, State.reset, Slot.reset, amountGranted]

theorem GrantedSumSound.initial (s : State) (cause : ResetCause) : GrantedSumSound (s.initial cause) where
  held := .initial s cause
  granted := (State.BudgetKept.initial s cause).granted
  effective := (State.BudgetKept.initial s cause).effective
  within := (State.BudgetKept.initial s cause).within

/-- Settles O9: the budgets are 0 after a reset and at its release, the commands that form the effective budget anew shed or
raise it, and every other command keeps all three by its moves. -/
theorem grantedSumStaysWithinBudget : Obligations.GrantedSumStaysWithinBudget := by
  refine step_keeps (fun s q h => ⟨h.held.queue q, h.granted, h.effective, h.within⟩) fun c s t h hst => ?_
  have hs : s.BudgetKept := ⟨h.granted, h.effective, h.within⟩
  obtain ⟨held, rfl | ⟨cause, rfl⟩ | ⟨hr, sup, flt, derate, rfl⟩ | ⟨-, -, -, hm⟩⟩ := h.held.exec_cases hst
  · exact h
  · exact .initial s cause
  · have hinit : s.budget = Budget.reset := by rw [h.held hr]; dsimp only [State.initial, State.reset]
    have hslots : (s.releaseReset sup flt derate).slots = s.slots := by rw [State.releaseReset_eq]
    have hbudget : (s.releaseReset sup flt derate).budget = { s.budget with derateLevel := derate, derateOn := !derate } := by
      rw [State.releaseReset_eq]
    refine ⟨held, ?_, ?_, ?_⟩ <;> rw [hbudget]
    · rw [State.grantedTotal_congr hslots]; exact h.granted
    · rw [hinit]; cases derate <;> rfl
    · exact h.within
  · have kept : t.BudgetKept := by
      cases hc : reformsBudget c with
      | true => exact hs.exec_reforms hc hst
      | false => exact hm.keeps_budget (fun h => by rw [show reformsBudget c = true from h] at hc; cases hc) hs
    exact ⟨held, kept.granted, kept.effective, kept.within⟩

end Sys2Proof.Machine
end

section
/-! SUPPORT. What the groups' new records make of the channels (R105 steps 3 and 4): the fold over the channels, channel by
channel, release amount by release amount, and notice by notice. -/

namespace Sys2Proof.Machine

/-! ### One channel -/

/-- Whether forming a channel's hold flag ends its wind-down (R70). -/
abbrev HoldIdles (s : State) (after : Vector Group 4) (c : Channel) : Prop :=
  heldBy after c = true ∧ (s.channel c).hold = false ∧ (s.channel c).state = .releasing

/-- A channel record with its hold flag formed (R69, R70, R72). -/
def ChannelRecord.withHold (r : ChannelRecord) (held : Bool) : ChannelRecord :=
  if held = r.hold then r else if held then r.whenHeld else r.whenResumed

theorem ChannelRecord.withHold_hold (r : ChannelRecord) (held : Bool) : (r.withHold held).hold = held := by
  unfold ChannelRecord.withHold
  split
  · next h => exact h.symm
  · cases held with
    | true => exact r.whenHeld_keeps.2.1
    | false => exact r.whenResumed_keeps.2.1

theorem ChannelRecord.withHold_tripped (r : ChannelRecord) (held : Bool) :
    (r.withHold held).state = .tripped ↔ r.state = .tripped := by
  unfold ChannelRecord.withHold ChannelRecord.whenHeld ChannelRecord.whenResumed
  cases h : r.state <;> cases held <;> cases r.hold <;> simp [h, ChannelRecord.idled]

theorem ChannelRecord.whenHeld_holder {r : ChannelRecord} (h : r.state.settling = true) : r.whenHeld.holder = r.holder := by
  unfold ChannelRecord.whenHeld
  split <;> simp_all [LoopState.settling]

theorem ChannelRecord.whenResumed_holder (r : ChannelRecord) : r.whenResumed.holder = r.holder := by
  unfold ChannelRecord.whenResumed
  split <;> rfl

section FormHold
variable (t : State) (before after : Vector Group 4) (c : Channel)

theorem State.formHold_channel (d : Channel) :
    (t.formHold before after c).channel d = if d = c then (t.channel c).withHold (heldBy after c) else t.channel d := by
  rw [State.formHold_eq]
  exact State.channel_setChannel t c d _

theorem State.formHold_releaseOf (d : Channel) :
    (t.formHold before after c).releaseOf d = if d = c ∧ HoldIdles t after c then 0 else t.releaseOf d := by
  have hr : (t.formHold before after c).releases = if HoldIdles t after c then t.releases.set c 0 else t.releases := by
    rw [State.formHold_eq]
  rw [State.releaseOf, hr]
  split
  · next h =>
    simp only [and_iff_left h]
    exact State.releaseOf_setRelease t c d 0
  · next h =>
    exact (if_neg fun e : d = c ∧ HoldIdles t after c => h e.2).symm

theorem State.formHold_releasing :
    (t.formHold before after c).budget.releasing =
      t.budget.releasing - if HoldIdles t after c then t.releaseOf c else 0 := by
  rw [State.formHold_eq]
  split <;> rfl

end FormHold

/-! ### The notices -/

/-- The group that a rising hold flag names: there is one (R106). -/
theorem namedGroup_eq {before after : Vector Group 4} {c : Channel} (hb : heldBy before c = false)
    (ha : heldBy after c = true) : namedGroup before after c = some (raisingGroup before after c).val := by
  have holds : ∀ (l : Vector Group 4) (g : Fin 4), l[g].holds c = decide (l[g].state ≠ .idle ∧ l[g].targets[c] = true) := by
    intro l g
    simp [Group.holds, Group.holding]
  have hfind : (fun g : Fin 4 => after[g].holds c && !before[g].holds c) = fun g : Fin 4 =>
      decide ((after[g].state ≠ .idle ∧ after[g].targets[c] = true) ∧
        ¬ (before[g].state ≠ .idle ∧ before[g].targets[c] = true)) := by
    funext g
    rw [holds, holds, Bool.decide_and, ← decide_not]
    simp
  unfold namedGroup raisingGroup
  rw [hfind, allGroups]
  cases hf : (List.finRange 4).find? _ with
  | some g => rfl
  | none =>
    obtain ⟨g, hg⟩ := of_decide_eq_true ha
    have hno := List.find?_eq_none.mp hf g (List.mem_finRange g)
    have hbefore : ¬ ∃ g : Fin 4, before[g].state ≠ .idle ∧ before[g].targets[c] = true := of_decide_eq_false hb
    exact absurd (decide_eq_true ⟨hg, fun h => hbefore ⟨g, h⟩⟩) hno

/-- The queue after a notice for the holder's port. -/
theorem State.noticesOf_withHolderNotice {t u : State} {k : Kind} {c : Channel} {v : Option Nat}
    (h : u.notices = withHolderNotice t k c v) (q : Port) :
    u.noticesOf q =
      t.noticesAfter q (if t.holderPort c = some q then [noticeOf t k c (t.channel c).holder v] else []) := by
  rw [State.noticesOf, h]
  unfold withHolderNotice State.noticesAfter
  cases hh : t.holderPort c with
  | none => simp; rfl
  | some p =>
    simp only [withNotice, Option.some.injEq]
    by_cases e : p = q
    · subst e
      by_cases ho : (t.session p).state = .opened <;> simp [ho, State.noticesOf]
    · by_cases ho : (t.session p).state = .opened <;> simp [ho, e, State.noticesOf, PerPort.get_set_ne _ _ (Ne.symm e)]

/-- What two states share for the notices of a channel's loop: the claim table, the counter, the sessions and the channel. -/
structure SameSpeaker (u t : State) (c : Channel) : Prop where
  slots : t.slots = u.slots
  scan : t.scan = u.scan
  sessions : t.sessions = u.sessions
  channel : t.channel c = u.channel c

theorem SameSpeaker.holderPort {u t : State} {c : Channel} (h : SameSpeaker u t c) : t.holderPort c = u.holderPort c := by
  simp only [State.holderPort, h.channel, State.resolve, State.record, State.slot, h.slots]
  rfl

/-- Forming a channel's hold flag makes the notices that `holdNotice` lists, of the state before the action. -/
theorem State.formHold_noticesOf {u t : State} {after : Vector Group 4} {c : Channel} (h : SameSpeaker u t c)
    (hold : (u.channel c).hold = heldBy u.trip.groups c) (q : Port) :
    (t.formHold u.trip.groups after c).noticesOf q = t.noticesAfter q (holdNotice u after q c) := by
  have quiet : holdNotice u after q c = [] → t.noticesOf q = t.noticesAfter q (holdNotice u after q c) := by
    intro h
    simp [State.noticesAfter, h]
  have spoken : ∀ (x : ChannelRecord) (k : Kind) (v : Option Nat), x.holder = (u.channel c).holder →
      ((t.setChannel c x).notifyHolder k c v).noticesOf q =
        t.noticesAfter q (if u.holderPort c = some q then [noticeOf u k c (u.channel c).holder v] else []) := by
    intro x k v hx
    have hp : (t.setChannel c x).holderPort c = u.holderPort c := by
      rw [← h.holderPort]
      simp only [State.holderPort, State.channel_setChannel_self, hx, h.channel]
      rfl
    rw [State.noticesOf_withHolderNotice (t := t.setChannel c x) (by rw [State.notifyHolder_eq]), hp,
      State.channel_setChannel_self, hx]
    simp only [noticeOf, State.setChannel_scan, h.scan]
    rfl
  unfold State.formHold
  rw [holdFormed_eq, h.channel]
  split
  · next e => exact quiet (by unfold holdNotice; rw [e]; cases (u.channel c).hold <;> simp)
  · next e =>
    rw [hold] at e
    cases ha : heldBy after c with
    | true =>
      have hb : heldBy u.trip.groups c = false := by simpa [ha] using e
      unfold State.sendHold
      simp only [if_true, h.channel]
      split
      · next hset =>
        rw [spoken _ _ _ (by rw [ChannelRecord.takeHold_eq, ChannelRecord.whenHeld_holder hset])]
        congr 1
        unfold holdNotice
        rw [namedGroup_eq hb ha]
        by_cases hq : u.holderPort c = some q <;> simp [hq, ha, hold, hb, hset]
      · next hset =>
        have : holdNotice u after q c = [] := by unfold holdNotice; simp [ha, hset]
        split
        · exact quiet this
        · exact quiet this
    | false =>
      have hb : heldBy u.trip.groups c = true := by simpa [ha] using e
      unfold State.sendUnhold
      simp only [Bool.false_eq_true, if_false, h.channel]
      split
      · next hheld =>
        rw [spoken _ _ _ (by rw [ChannelRecord.takeUnhold_eq, ChannelRecord.whenResumed_holder])]
        congr 1
        unfold holdNotice
        by_cases hq : u.holderPort c = some q <;> simp [hq, ha, hold, hb, hheld]
      · next hheld => exact quiet (by unfold holdNotice; simp [ha, hheld])

/-! ### All channels -/

/-- The forming of the hold flags of some channels, one after another. -/
def State.formHolds (t : State) (before after : Vector Group 4) (l : List Channel) : State :=
  l.foldl (fun t c => t.formHold before after c) t

theorem State.putGroups_eq (s : State) (after : Vector Group 4) :
    s.putGroups after =
      (s.setTrip { s.trip with groups := after, fault := faultFormed after }).formHolds s.trip.groups after allChannels := rfl

section FormHolds
variable {before after : Vector Group 4} {l : List Channel}

theorem State.formHolds_channel (t : State) (h : l.Nodup) (c : Channel) :
    (t.formHolds before after l).channel c =
      if c ∈ l then (t.channel c).withHold (heldBy after c) else t.channel c := by
  induction l generalizing t with
  | nil => simp [State.formHolds]
  | cons d rest ih =>
    obtain ⟨hd, hrest⟩ := List.nodup_cons.mp h
    have := ih (t.formHold before after d) hrest
    rw [State.formHolds, List.foldl_cons, ← State.formHolds, this, State.formHold_channel]
    by_cases e : c = d
    · subst e; simp [hd]
    · simp [e]

theorem State.formHolds_releaseOf (t : State) (h : l.Nodup) (c : Channel) :
    (t.formHolds before after l).releaseOf c = if c ∈ l ∧ HoldIdles t after c then 0 else t.releaseOf c := by
  induction l generalizing t with
  | nil => simp [State.formHolds]
  | cons d rest ih =>
    obtain ⟨hd, hrest⟩ := List.nodup_cons.mp h
    rw [State.formHolds, List.foldl_cons, ← State.formHolds, ih _ hrest, State.formHold_releaseOf]
    by_cases e : c = d
    · subst e; simp [hd]
    · simp [e, HoldIdles, State.formHold_channel]

theorem State.formHolds_releasing (t : State) (h : l.Nodup) :
    (t.formHolds before after l).budget.releasing =
      t.budget.releasing - (l.map fun c => if HoldIdles t after c then t.releaseOf c else 0).sum := by
  induction l generalizing t with
  | nil => simp [State.formHolds]
  | cons d rest ih =>
    obtain ⟨hd, hrest⟩ := List.nodup_cons.mp h
    have same : (rest.map fun c => if HoldIdles (t.formHold before after d) after c then
        (t.formHold before after d).releaseOf c else 0) =
        rest.map fun c => if HoldIdles t after c then t.releaseOf c else 0 := by
      refine List.map_congr_left fun c hc => ?_
      have e : c ≠ d := fun e => hd (e ▸ hc)
      simp [HoldIdles, State.formHold_channel, State.formHold_releaseOf, e]
    rw [State.formHolds, List.foldl_cons, ← State.formHolds, ih _ hrest, same, State.formHold_releasing, List.map_cons,
      List.sum_cons, Nat.sub_sub]

theorem State.formHold_frame (t : State) (before after : Vector Group 4) (c : Channel) :
    (t.formHold before after c).slots = t.slots ∧ (t.formHold before after c).scan = t.scan ∧
      (t.formHold before after c).sessions = t.sessions := by
  rw [State.formHold_eq]; exact ⟨rfl, rfl, rfl⟩

theorem State.formHolds_noticesOf {u t : State} (h : l.Nodup) (same : ∀ c ∈ l, SameSpeaker u t c)
    (hold : ∀ c, (u.channel c).hold = heldBy u.trip.groups c) (q : Port) :
    (t.formHolds u.trip.groups after l).noticesOf q = t.noticesAfter q (l.map (holdNotice u after q)).flatten := by
  induction l generalizing t with
  | nil => simp [State.formHolds, State.noticesAfter]
  | cons d rest ih =>
    obtain ⟨hd, hrest⟩ := List.nodup_cons.mp h
    obtain ⟨hslots, hscan, hsessions⟩ := t.formHold_frame u.trip.groups after d
    have next : ∀ c ∈ rest, SameSpeaker u (t.formHold u.trip.groups after d) c := by
      intro c hc
      have hcs := same c (List.mem_cons_of_mem _ hc)
      have e : c ≠ d := fun e => hd (e ▸ hc)
      exact ⟨hslots.trans hcs.slots, hscan.trans hcs.scan, hsessions.trans hcs.sessions,
        by rw [State.formHold_channel, if_neg e, hcs.channel]⟩
    have hopen : (t.formHold u.trip.groups after d).session q = t.session q := by simp only [State.session, hsessions]
    rw [State.formHolds, List.foldl_cons, ← State.formHolds, ih hrest next, State.noticesAfter, hopen,
      State.formHold_noticesOf (same d List.mem_cons_self) (hold d), List.map_cons, List.flatten_cons]
    unfold State.noticesAfter
    split
    · rw [List.foldl_append]
    · rfl

end FormHolds

section PutGroups
variable (s : State) (after : Vector Group 4)

theorem nodup_allChannels : allChannels.Nodup := List.nodup_finRange 12

theorem State.putGroups_channel (c : Channel) :
    (s.putGroups after).channel c = (s.channel c).withHold (heldBy after c) := by
  rw [State.putGroups_eq, State.formHolds_channel _ nodup_allChannels, if_pos (mem_allChannels c)]
  rfl

theorem State.putGroups_releaseOf (c : Channel) :
    (s.putGroups after).releaseOf c = if HoldIdles s after c then 0 else s.releaseOf c := by
  rw [State.putGroups_eq, State.formHolds_releaseOf _ nodup_allChannels]
  simp only [mem_allChannels, true_and]
  rfl

theorem State.putGroups_releasing :
    (s.putGroups after).budget.releasing =
      s.budget.releasing - (allChannels.map fun c => if HoldIdles s after c then s.releaseOf c else 0).sum := by
  rw [State.putGroups_eq, State.formHolds_releasing _ nodup_allChannels]
  rfl

/-- A port whose session is not OPEN gets no notice (R133). -/
theorem State.putGroups_noticesOf_closed {p : Port} (h : (s.session p).state ≠ .opened) :
    (s.putGroups after).noticesOf p = s.noticesOf p := by
  have step : ∀ (l : List Channel) (t : State), t.sessions = s.sessions → t.noticesOf p = s.noticesOf p →
      (t.formHolds s.trip.groups after l).noticesOf p = s.noticesOf p := by
    intro l
    induction l with
    | nil => exact fun t _ h => h
    | cons c rest ih =>
      intro t ht hn
      refine ih _ ((t.formHold_frame _ _ c).2.2.trans ht) ?_
      rcases t.formHold_notices s.trip.groups after c with h' | ⟨u, k, v, -, hus, hun, h'⟩
      · rw [State.noticesOf, h']; exact hn
      · rw [State.noticesOf_withHolderNotice h', State.noticesAfter, if_neg, State.noticesOf, hun]
        · exact hn
        · rw [State.session, hus, ht]; exact h
  exact step allChannels _ rfl rfl

theorem State.putGroups_noticesOf (hold : ∀ c, (s.channel c).hold = heldBy s.trip.groups c) (p : Port) :
    (s.putGroups after).noticesOf p = s.noticesAfter p (allChannels.map (holdNotice s after p)).flatten := by
  exact State.formHolds_noticesOf (u := s) (t := s.setTrip { s.trip with groups := after, fault := faultFormed after }) nodup_allChannels
    (fun _ _ => ⟨rfl, rfl, rfl, rfl⟩) hold p

end PutGroups

/-- Settles O50. -/
theorem groupsFormHoldsAndFault : Obligations.GroupsFormHoldsAndFault := by
  rintro s t after rfl
  refine ⟨by rw [State.putGroups_frame], s.putGroups_channel after, s.putGroups_releaseOf after, s.putGroups_releasing after,
    fun p => s.putGroups_noticesOf_closed after, s.putGroups_noticesOf after, ?_⟩
  conv_lhs => rw [State.putGroups_frame]
  rw [State.putGroups_frame]

end Sys2Proof.Machine
end

section
/-! SUPPORT. The invariant of the trip unit (R68, R101, R104, R106, R107): what each input follows, what the moves that leave
the inputs alone keep, and each operation that changes an input or what it follows. -/

namespace Sys2Proof.Machine

/-! ### What the inputs follow -/

/-- What an input follows (R101). -/
def State.source (s : State) : TripInput → Bool
  | .flt i => assertedAt s.trip.fltPolarity[i] s.trip.fltLevel[i]
  | .rail => s.scan.railFlag
  | .tripany => s.anyTripped
  | .soft p => (s.session p).soft

/-- The groups, the hold flags and FAULT are as the recorded inputs form them (R104, R106, R107). -/
structure State.GroupsFormed (s : State) : Prop where
  active : ∀ g, (s.group g).state = .active ↔ (s.group g).condition s.trip.inputs = true
  holds : ∀ c, (s.channel c).hold = heldBy s.trip.groups c
  fault : s.trip.fault = someGroupHolds s.trip.groups

/-- And every input's recorded state is that of its source (R101). -/
structure State.InputsFollow (s : State) : Prop where
  formed : s.GroupsFormed
  inputs : ∀ j, s.input j = s.source j

theorem TripUnitSound.follow {s : State} (h : TripUnitSound s) : s.InputsFollow where
  formed := ⟨h.active, fun c => (h.holds c).trans (holdFormed_eq _ c), h.fault.trans (faultFormed_eq _)⟩
  inputs j := by
    cases j with
    | flt i => exact h.flt i
    | rail => exact h.rail
    | tripany => exact h.tripany
    | soft p => exact h.soft p

theorem State.InputsFollow.sound {s : State} (h : s.InputsFollow) (held : HeldAtInitial s) : TripUnitSound s where
  held := held
  flt i := h.inputs (.flt i)
  rail := h.inputs .rail
  tripany := h.inputs .tripany
  soft p := h.inputs (.soft p)
  active := h.formed.active
  holds c := (h.formed.holds c).trans (holdFormed_eq _ c).symm
  fault := h.formed.fault.trans (faultFormed_eq _).symm

theorem State.anyTripped_iff (s : State) : s.anyTripped = true ↔ ∃ c, (s.channel c).state = .tripped := by
  simp [State.anyTripped]

theorem State.anyTripped_congr {s t : State} (h : ∀ c, (t.channel c).state = .tripped ↔ (s.channel c).state = .tripped) :
    t.anyTripped = s.anyTripped := by
  rw [Bool.eq_iff_iff, State.anyTripped_iff, State.anyTripped_iff]
  exact exists_congr h

/-! ### What the moves that leave the inputs alone keep -/

/-- No step of a loop state trips the channel, or frees a tripped one. -/
theorem ChannelRecord.stateStep_tripped (r : ChannelRecord) (m : Nat) :
    (r.stateStep m).1.state = .tripped ↔ r.state = .tripped := by
  have halve : ∀ x : ChannelRecord, x.halve.state ≠ .tripped := by
    intro x
    unfold ChannelRecord.halve
    split <;> simp [ChannelRecord.toTrack, ChannelRecord.clearVotes]
  have vote : ∀ (x : ChannelRecord) (d : Direction), x.state ≠ .tripped → (x.vote d).1.state ≠ .tripped := by
    intro x d hx
    unfold ChannelRecord.vote ChannelRecord.adjust
    split
    · cases d with
      | up =>
        simp only
        split
        · simp
        · simpa [ChannelRecord.clearVotes, ChannelRecord.adapt_eq] using hx
      | down | none => simpa [ChannelRecord.clearVotes, ChannelRecord.adapt_eq] using hx
    · exact hx
  unfold ChannelRecord.stateStep
  split
  · next h =>
    unfold ChannelRecord.rampStep
    simp only [h, reduceCtorEq, iff_false]
    split
    · exact halve _
    · split <;> simp
  · next h =>
    unfold ChannelRecord.bisectStep
    simp only [h, reduceCtorEq, iff_false]
    split <;> exact halve _
  · next h =>
    unfold ChannelRecord.trackStep
    simp only [h, reduceCtorEq, iff_false]
    split
    · exact vote _ _ (by simp [h])
    · split
      · exact vote _ _ (by simp [h])
      · split <;> simp [ChannelRecord.clearVotes, h]
  · next h =>
    unfold ChannelRecord.limitedStep
    split <;> simp [ChannelRecord.toTrack, h]
  · next h =>
    unfold ChannelRecord.windDownStep
    split <;> simp [ChannelRecord.toIdle, h]
  all_goals rfl

/-- A measurement trips the channel where it says so, and frees none. -/
theorem ChannelRecord.measure_tripped (r : ChannelRecord) (m : Nat) (owner : Option Port) :
    (r.measure m owner).1.state = .tripped ↔ r.state = .tripped ∨ (r.measure m owner).2 = .tripped := by
  cases hg : r.state.guarded with
  | false => rw [ChannelRecord.measure_of_not_guarded r m owner hg]; simp
  | true =>
    by_cases hn : NoTrip r m
    · rw [ChannelRecord.measure_of_noTrip r m owner hg hn]
      rw [ChannelRecord.stateStep_tripped]
      refine (or_iff_left ?_).symm
      unfold ChannelRecord.stateStep
      have vote : ∀ (x : ChannelRecord) (d : Direction), (x.vote d).2 ≠ .tripped := by
        intro x d
        unfold ChannelRecord.vote ChannelRecord.adjust
        split
        · cases d with
          | up => simp only; split <;> simp
          | down | none => simp
        · simp
      split
      · unfold ChannelRecord.rampStep; repeat' split <;> simp
      · unfold ChannelRecord.bisectStep; split <;> simp
      · unfold ChannelRecord.trackStep
        split
        · exact vote _ _
        · split
          · exact vote _ _
          · split <;> simp
      · unfold ChannelRecord.limitedStep; split <;> simp
      · unfold ChannelRecord.windDownStep; split <;> simp
      all_goals simp
    · simp only [not_or, not_le, not_lt] at hn
      rw [ChannelRecord.measure_of_trip r m owner hg hn.1 hn.2]
      simp [ChannelRecord.trip]

theorem ChannelRecord.release_tripped (r : ChannelRecord) (amount : Nat) :
    (r.release amount).state = .tripped ↔ r.state = .tripped := by
  have driven : (if 0 < r.drive then { r with state := .releasing, holder := none, target := amount } else r.toIdle).state ≠
      .tripped := by
    split <;> simp [ChannelRecord.toIdle]
  unfold ChannelRecord.release
  cases h : r.state with
  | ramp | bisect | track | limited => simpa using driven
  | held => simp [ChannelRecord.toIdle]
  | idle | releasing | tripped => simp [h]

theorem ChannelRecord.changeCeiling_keeps (r : ChannelRecord) (ceiling : Nat) :
    (r.changeCeiling ceiling).hold = r.hold ∧ ((r.changeCeiling ceiling).state = .tripped ↔ r.state = .tripped) := by
  unfold ChannelRecord.changeCeiling
  cases h : r.state <;> simp only [LoopState.settling] <;> repeat' split
  all_goals simp_all [ChannelRecord.toTrack, ChannelRecord.clearVotes]

/-- An event that leaves the inputs alone keeps the hold flag and, but for a trip, whether the channel is TRIPPED. -/
theorem LoopEvent.keeps_hold {L : Allowed} {r x : ChannelRecord} (h : LoopEvent L r x) (hL : ¬ L.inputs) :
    x.hold = r.hold ∧ (r.state = .tripped → x.state = .tripped) ∧ (¬ L.trips → x.state = .tripped → r.state = .tripped) := by
  cases h with
  | same => exact ⟨rfl, id, fun _ => id⟩
  | measures m owner ht =>
    refine ⟨(r.measure_keeps m owner).2, fun h => (r.measure_tripped m owner).mpr (.inl h), fun _ h => ?_⟩
    exact ((r.measure_tripped m owner).mp h).resolve_right ht
  | trips m owner ht =>
    exact ⟨(r.measure_keeps m owner).2, fun h => (r.measure_tripped m owner).mpr (.inl h), fun h => absurd ht h⟩
  | grants h amount hs =>
    refine ⟨(r.grant_keeps h amount).2.1, fun h => (by rw [hs] at h; cases h), fun _ h => ?_⟩
    unfold ChannelRecord.grant at h
    simp only at h
    split at h <;> cases h
  | releases amount =>
    exact ⟨(r.release_keeps amount).2.1, (r.release_tripped amount).mpr, fun _ => (r.release_tripped amount).mp⟩
  | retargets amount =>
    unfold ChannelRecord.retarget
    cases h : r.state <;> simp [ChannelRecord.clearVotes, h]
  | loops => exact ⟨rfl, id, fun _ => id⟩
  | limits o =>
    obtain ⟨hh, ht⟩ := ({ r with config := { r.config with rating := o.rating, guard := o.guard, gain := o.gain } } :
      ChannelRecord).changeCeiling_keeps o.ceiling
    exact ⟨hh, ht.mpr, fun _ => ht.mp⟩
  | holds h | resumes h | clears h | restarts h => exact absurd h hL

/-- What the moves that leave the inputs alone keep: the trip unit, the rail flag, the soft bits, the hold flags and,
but for a trip, which channels are TRIPPED. -/
structure TripKept (L : Allowed) (s t : State) : Prop where
  trip : t.trip = s.trip
  railFlag : t.scan.railFlag = s.scan.railFlag
  soft : ∀ p, (t.session p).soft = (s.session p).soft
  hold : ∀ c, (t.channel c).hold = (s.channel c).hold
  tripped : ∀ c, (s.channel c).state = .tripped → (t.channel c).state = .tripped
  back : ¬ L.trips → ∀ c, (t.channel c).state = .tripped → (s.channel c).state = .tripped

section Kept
variable {L : Allowed} {s t u : State}

theorem TripKept.refl : TripKept L s s := ⟨rfl, rfl, fun _ => rfl, fun _ => rfl, fun _ => id, fun _ _ => id⟩

theorem TripKept.trans (h : TripKept L s t) (h' : TripKept L t u) : TripKept L s u :=
  ⟨h'.trip.trans h.trip, h'.railFlag.trans h.railFlag, fun p => (h'.soft p).trans (h.soft p),
    fun c => (h'.hold c).trans (h.hold c), fun c hc => h'.tripped c (h.tripped c hc),
    fun hL c hc => h.back hL c (h'.back hL c hc)⟩

theorem SessionMove.keeps_soft (hL : ¬ L.inputs) {p : Port} {x : Session} (h : SessionMove L s p x) :
    x.soft = (s.session p).soft := by
  cases h with
  | soft _ h => exact absurd h hL
  | _ => rfl

theorem Move.tripKept (hL : ¬ L.inputs) (h : Move L s t) : TripKept L s t := by
  have hunit : t.trip = s.trip ∧ t.scan.railFlag = s.scan.railFlag := by
    cases h with
    | wire | session | take | empty | channel | idle | unowned | make | amount | lower | raise | budget => exact ⟨rfl, rfl⟩
    | scan x _ hf => exact ⟨rfl, hf.resolve_left hL⟩
    | trip _ h | hold _ _ _ h | restart h => exact absurd h hL
    | notice p n => rw [State.notify_eq]; exact ⟨rfl, rfl⟩
    | frees i r => split <;> exact ⟨rfl, rfl⟩
    | grant i r => rw [State.grantSlot_eq]; exact ⟨rfl, rfl⟩
    | drop i r => rw [State.dropRecord_frame]; exact ⟨rfl, rfl⟩
    | shed i r => rw [State.shedRecord_frame]; exact ⟨rfl, rfl⟩
  refine ⟨hunit.1, hunit.2, fun p => ?_, fun c => ((h.loopEvent c).keeps_hold hL).1,
    fun c => ((h.loopEvent c).keeps_hold hL).2.1, fun ht c => ((h.loopEvent c).keeps_hold hL).2.2 ht⟩
  rcases h.sessions_cases with h | ⟨q, x, hx, rfl⟩
  · simp only [State.session, h]
  · rw [State.session_setSession]
    split
    · next e => exact e ▸ hx.keeps_soft hL
    · rfl

theorem Moves.tripKept (hL : ¬ L.inputs) (h : Moves L s t) : TripKept L s t :=
  h.keeps (P := TripKept L s) (fun _ _ hu hm => hu.trans (hm.tripKept hL)) .refl

theorem TripKept.formed (h : TripKept L s t) (hs : s.GroupsFormed) : t.GroupsFormed := by
  have hg : ∀ g, t.group g = s.group g := fun g => by simp only [State.group, h.trip]
  refine ⟨fun g => ?_, fun c => ?_, ?_⟩
  · rw [hg, h.trip]; exact hs.active g
  · rw [h.hold, h.trip]; exact hs.holds c
  · rw [h.trip]; exact hs.fault

theorem TripKept.input (h : TripKept L s t) (j : TripInput) : t.input j = s.input j := by
  simp only [State.input, h.trip]

theorem TripKept.source (h : TripKept L s t) {j : TripInput} (hj : j = .tripany → ¬ L.trips) : t.source j = s.source j := by
  cases j with
  | flt i => simp only [State.source, h.trip]
  | rail => exact h.railFlag
  | soft p => exact h.soft p
  | tripany => exact State.anyTripped_congr fun c => ⟨h.back (hj rfl) c, h.tripped c⟩

theorem TripKept.follow (h : TripKept L s t) (hL : ¬ L.trips) (hs : s.InputsFollow) : t.InputsFollow :=
  ⟨h.formed hs.formed, fun j => by rw [h.input, h.source fun _ => hL]; exact hs.inputs j⟩

/-- The label of moves that change neither an input nor what it follows. -/
def Allowed.quiet : Allowed := ⟨True, True, False, True, False⟩

theorem State.InputsFollow.moves (hs : s.InputsFollow) (h : Moves .quiet s t) : t.InputsFollow :=
  (h.tripKept id).follow id hs

end Kept

/-! ### Input events -/

section Events
variable {s : State}

/-- New group records form the hold flags and FAULT (R105 steps 3 and 4). -/
theorem State.GroupsFormed.putGroups {after : Vector Group 4}
    (h : ∀ g : Fin 4, after[g].state = .active ↔ after[g].condition s.trip.inputs = true) :
    (s.putGroups after).GroupsFormed := by
  have htrip : (s.putGroups after).trip = { s.trip with groups := after, fault := someGroupHolds after } := by
    rw [State.putGroups_frame]
  refine ⟨fun g => ?_, fun c => ?_, ?_⟩
  · rw [State.group, htrip]; exact h g
  · rw [State.putGroups_channel, ChannelRecord.withHold_hold, htrip]
  · rw [htrip]

theorem State.source_putGroups (s : State) (after : Vector Group 4) (j : TripInput) :
    (s.putGroups after).source j = s.source j := by
  cases j with
  | flt i | rail | soft p => rw [State.putGroups_frame]; rfl
  | tripany =>
    refine State.anyTripped_congr fun c => ?_
    rw [State.putGroups_channel, ChannelRecord.withHold_tripped]

theorem State.InputsFollow.putGroups {after : Vector Group 4} (inputs : ∀ j, s.input j = s.source j)
    (h : ∀ g : Fin 4, after[g].state = .active ↔ after[g].condition s.trip.inputs = true) :
    (s.putGroups after).InputsFollow := by
  refine ⟨.putGroups h, fun j => ?_⟩
  rw [State.source_putGroups, ← inputs j, State.putGroups_frame]
  rfl

theorem State.InputsFollow.tripAction {after : Vector Group 4} (inputs : ∀ j, s.input j = s.source j)
    (h : ∀ g : Fin 4, after[g].state = .active ↔ after[g].condition s.trip.inputs = true) :
    (s.tripAction after).InputsFollow := by
  have put : (s.putGroups after).InputsFollow := .putGroups inputs h
  unfold State.tripAction
  split
  · exact put.moves Moves.allocationPass
  · exact put

theorem tableState_active (x : GroupState) (m : GroupMode) (b : Bool) : tableState x m b = .active ↔ b = true := by
  cases x <;> cases m <;> cases b <;> simp [tableState]

/-- A group settled against the inputs is ACTIVE exactly while its condition is asserted (R104). -/
theorem Group.settle_active (g : Group) (inputs : BitVec 10) :
    (g.settle inputs).state = .active ↔ (g.settle inputs).condition inputs = true := by
  rw [Group.settle_eq, tableState_active, ← Group.condition_eq]
  rfl

theorem State.settledGroups_active (s : State) (g : Fin 4) :
    s.settledGroups[g].state = .active ↔ s.settledGroups[g].condition s.trip.inputs = true := by
  have h : s.settledGroups[g] = (s.group g).settle s.trip.inputs := Vector.getElem_ofFn _
  rw [h]
  exact (s.group g).settle_active s.trip.inputs

theorem State.source_recordInput (s : State) (i j : TripInput) (v : Bool) : (s.recordInput i v).source j = s.source j := by
  cases j <;> rfl

theorem State.input_recordInput_of {i : TripInput} {v : Bool} (h : ∀ j, j ≠ i → s.input j = s.source j)
    (hv : v = s.source i) (j : TripInput) : (s.recordInput i v).input j = (s.recordInput i v).source j := by
  rw [State.input_recordInput, State.source_recordInput]
  split
  · next e => rw [hv, e]
  · next e => exact h j e

/-- An input event at which the input takes its source's state. -/
theorem State.InputsFollow.inputEvent {i : TripInput} {v : Bool} (h : ∀ j, j ≠ i → s.input j = s.source j)
    (hv : v = s.source i) : (s.inputEvent i v).InputsFollow :=
  .tripAction (State.input_recordInput_of h hv) (s.recordInput i v).settledGroups_active

theorem State.InputsFollow.followTripany (formed : s.GroupsFormed) (h : ∀ j, j ≠ .tripany → s.input j = s.source j) :
    s.followTripany.InputsFollow := by
  unfold State.followTripany
  split
  · next e =>
    refine ⟨formed, fun j => ?_⟩
    by_cases hj : j = .tripany
    · rw [hj]; exact e.symm
    · exact h j hj
  · exact .inputEvent h rfl

/-! ### Sessions -/

theorem State.source_setSession (s : State) (p : Port) (x : Session) (j : TripInput) :
    (s.setSession p x).source j = if j = .soft p then x.soft else s.source j := by
  cases j with
  | flt i | rail | tripany => rfl
  | soft q =>
    simp only [State.source, State.session_setSession, TripInput.soft.injEq]
    split <;> rfl

/-- A soft bit that changes, and the input event that follows (R110, R111). -/
theorem State.InputsFollow.softEvent (hs : s.InputsFollow) (p : Port) (v : Bool) :
    ((s.setSession p { s.session p with soft := v }).inputEvent (.soft p) v).InputsFollow := by
  refine .inputEvent (fun j hj => ?_) ?_ <;> rw [State.source_setSession]
  · rw [if_neg hj]; exact hs.inputs j
  · rw [if_pos rfl]

theorem State.InputsFollow.clearSoft (hs : s.InputsFollow) (p : Port) : (s.clearSoft p).InputsFollow := by
  unfold State.clearSoft
  split
  · exact hs.softEvent p false
  · exact hs

/-- A session record that keeps its soft bit. -/
theorem State.InputsFollow.setSession (hs : s.InputsFollow) {p : Port} {x : Session} (h : x.soft = (s.session p).soft) :
    (s.setSession p x).InputsFollow := by
  refine ⟨⟨hs.formed.active, hs.formed.holds, hs.formed.fault⟩, fun j => ?_⟩
  rw [State.source_setSession]
  split
  · next e => rw [h, e]; exact hs.inputs (.soft p)
  · exact hs.inputs j

theorem State.InputsFollow.setPort (hs : s.InputsFollow) (p : Port) (y : PortState) : (s.setPort p y).InputsFollow :=
  hs.moves (Moves.setPort p y)

theorem State.InputsFollow.endSession (hs : s.InputsFollow) (p : Port) (result : SessionState) :
    (s.endSession p result).InputsFollow := by
  unfold State.endSession
  have cleared := ((hs.moves (Moves.reclaim p)).clearSoft p).moves (Move.empty p).run
  exact cleared.setSession rfl

theorem State.InputsFollow.lapse (hs : s.InputsFollow) (p : Port) : (s.lapse p).InputsFollow := by
  rw [State.lapse_eq]
  exact (hs.endSession p .lapsed).moves (Move.wire _ _ _ _ _ _).run

theorem State.InputsFollow.tick (hs : s.InputsFollow) (p : Port) : (s.tick p).InputsFollow := by
  have ticked : ∀ n, (s.setSession p { s.session p with remaining := n }).InputsFollow := fun _ => hs.setSession rfl
  rw [State.tick_eq]
  split
  · exact (ticked _).lapse p
  · split
    · unfold State.leaseWarning
      have warned := (ticked ((s.session p).remaining - 1)).setSession (p := p)
        (x := { (s.setSession p { s.session p with remaining := (s.session p).remaining - 1 }).session p with warned := true }) rfl
      exact warned.moves (Move.notice p _ (by simp [State.leaseWarnNotice])).run
    · exact ticked _

theorem State.InputsFollow.resetPort (hs : s.InputsFollow) (p : Port) : (s.resetPort p).InputsFollow := by
  rw [State.resetPort_eq]
  split
  · exact (hs.endSession p .closed).moves (Move.wire _ _ _ _ _ _).run
  · have emptied := (hs.setPort p (s.port p).emptied).moves (Move.empty p).run
    exact emptied.setSession rfl
  · exact hs.setPort p _

theorem State.InputsFollow.stretch (hs : s.InputsFollow) (p : Port) (code : Byte) (part : Stretch) (bytes : List Byte) :
    (s.stretch p code part bytes).InputsFollow := by
  have deselected : ∀ u : State, u.InputsFollow → (u.deselect p).InputsFollow := by
    intro u hu
    unfold State.deselect State.takeReceived
    split
    · exact hu
    · have hu := hu.setPort p { u.port p with transaction := none }
      split
      · exact hu
      · split
        · rw [State.receiveFrame_eq]; exact hu.setPort p _
        · split
          · exact hu.resetPort p
          · exact hu
  have ended : ∀ u : State, u.InputsFollow → (if part.deselects then u.deselect p else u).InputsFollow := by
    intro u hu; split
    · exact deselected u hu
    · exact hu
  have selected : (if part.selects then s.select p else s).InputsFollow := by
    split
    · exact hs.moves (Moves.select p)
    · exact hs
  unfold State.stretch
  split
  · exact ended _ (selected.moves (Moves.clockBytes p bytes))
  · exact hs

/-! ### Measurements -/

/-- The scanner's state with the rail flag as it was. -/
theorem State.InputsFollow.setScan (hs : s.InputsFollow) {x : Scanner} (hf : x.railFlag = s.scan.railFlag) :
    (s.setScan x).InputsFollow := hs.moves (Move.scan x (.inl trivial) (.inr hf)).run

/-- The rail flag changes, and the input event that follows (R94, R96). -/
theorem State.InputsFollow.railEvent (hs : s.InputsFollow) (x : Scanner) :
    ((s.setScan x).inputEvent .rail x.railFlag).InputsFollow := by
  refine .inputEvent (fun j hj => ?_) rfl
  have : (s.setScan x).source j = s.source j := by cases j <;> first | rfl | exact absurd rfl hj
  rw [this]
  exact hs.inputs j

theorem State.InputsFollow.railConversion (hs : s.InputsFollow) (code : Nat) : (s.railConversion code).InputsFollow := by
  unfold State.railConversion
  simp only
  have measured := hs.setScan (x := { s.scan with railValue := scaled s.scan.railGain code, position := 13 }) rfl
  split
  · exact measured.railEvent { (s.setScan _).scan with railFlag := true }
  · exact measured

/-- The label of what follows a trip but the trip unit's part. -/
def Allowed.tripping : Allowed := ⟨True, True, True, True, False⟩

/-- The trip unit as a trip finds it: TRIPANY apart, every input follows its source, and a channel is TRIPPED. -/
structure State.AfterTrip (s : State) : Prop where
  formed : s.GroupsFormed
  inputs : ∀ j, j ≠ .tripany → s.input j = s.source j
  tripped : ∃ c, (s.channel c).state = .tripped

theorem State.AfterTrip.moves {t : State} (hs : s.AfterTrip) (h : Moves .tripping s t) : t.AfterTrip := by
  have kept := h.tripKept id
  obtain ⟨c, hc⟩ := hs.tripped
  refine ⟨kept.formed hs.formed, fun j hj => ?_, c, kept.tripped c hc⟩
  rw [kept.input, kept.source fun e => absurd e hj]
  exact hs.inputs j hj

theorem State.AfterTrip.follow (hs : s.AfterTrip) (h : s.input .tripany = true) : s.InputsFollow := by
  refine ⟨hs.formed, fun j => ?_⟩
  by_cases hj : j = .tripany
  · rw [hj, h]; exact (s.anyTripped_iff.mpr hs.tripped).symm
  · exact hs.inputs j hj

theorem State.AfterTrip.followTripany (hs : s.AfterTrip) : s.followTripany.InputsFollow :=
  .followTripany hs.formed hs.inputs

/-- A trip's two consequences, in either order (R81). -/
theorem State.AfterTrip.afterTrip (hs : s.AfterTrip) (b : ChannelRecord) (c : Channel) (m : Nat) :
    (s.afterTrip b c m).InputsFollow := by
  have report : ∀ u : State, Moves .tripping u (u.reportTrip b c m) := fun u => Moves.reportTrip trivial b c m
  unfold State.afterTrip
  split
  · have counted : State.AfterTrip { s with choice := s.choice + 1 } := hs.moves (Move.wire _ _ _ _ _ _).run
    simp only
    split
    · have followed := counted.followTripany
      have tripped : ({ s with choice := s.choice + 1 } : State).followTripany.input .tripany = true := by
        rw [State.input_followTripany, if_pos rfl]
        exact (State.anyTripped_iff _).mpr counted.tripped
      have again : State.AfterTrip ({ s with choice := s.choice + 1 } : State).followTripany :=
        ⟨followed.formed, fun j _ => followed.inputs j, (State.anyTripped_iff _).mp ((followed.inputs .tripany).symm.trans tripped)⟩
      refine (again.moves (report _)).follow ?_
      rw [((report _).tripKept id).input, tripped]
    · exact (counted.moves (report _)).followTripany
  · exact (hs.moves (report _)).followTripany

theorem State.InputsFollow.measurement (hs : s.InputsFollow) (c : Channel) (m : Nat) :
    (s.measurement c m).InputsFollow := by
  by_cases ht : ((s.channel c).measure m (s.holderPort c)).2 = .tripped
  · unfold State.measurement
    simp only [ht]
    have kept := (Move.channel (L := .tripping) c _ (.trips m (s.holderPort c) trivial ht)).tripKept id
    refine State.AfterTrip.afterTrip ⟨kept.formed hs.formed, fun j hj => ?_, c, ?_⟩ _ c m
    · rw [kept.input, kept.source fun e => absurd e hj]
      exact hs.inputs j
    · rw [State.channel_setChannel_self]
      exact ((s.channel c).measure_tripped m _).mpr (.inr ht)
  · exact hs.moves (Moves.measurement c m fun h => absurd h ht)

theorem State.InputsFollow.channelConversion (hs : s.InputsFollow) (c : Channel) (code : Nat) :
    (s.channelConversion c code).InputsFollow := by
  have window : (s.windowAdd c code).InputsFollow := hs.setScan rfl
  unfold State.channelConversion
  simp only
  split
  · exact window.measurement c _
  · exact window

/-! ### Pins and the trip commands -/

theorem State.InputsFollow.fltLevel (hs : s.InputsFollow) (pin : FltPin) (level : Bool) :
    (s.fltLevel pin level).InputsFollow := by
  let t := s.setTrip { s.trip with fltLevel := s.trip.fltLevel.set pin level }
  have hpin : t.source (.flt pin) = assertedAt s.trip.fltPolarity[pin] level := by
    simp [t, State.source]
  have hother : ∀ j, j ≠ .flt pin → t.input j = t.source j := by
    intro j hj
    refine (hs.inputs j).trans ?_
    cases j with
    | flt i =>
      have e : (pin : Nat) ≠ i := fun e => hj (by rw [Fin.ext e])
      simp [t, State.source, e]
    | rail | tripany | soft p => rfl
  unfold State.fltLevel
  simp only
  split
  · next e =>
    refine ⟨⟨hs.formed.active, hs.formed.holds, hs.formed.fault⟩, fun j => ?_⟩
    by_cases hj : j = .flt pin
    · rw [hj]; exact e.symm.trans hpin.symm
    · exact hother j hj
  · exact .inputEvent hother hpin.symm

theorem State.InputsFollow.clearTripOwn (hs : s.InputsFollow) (p : Port) (c : Channel) :
    (clearTripOwn p c s).1.InputsFollow := by
  unfold Machine.clearTripOwn
  simp only
  split
  · exact hs
  · split
    · exact hs
    · have formed : (s.setChannel c (s.channel c).clearTrip).GroupsFormed := by
        refine ⟨hs.formed.active, fun d => ?_, hs.formed.fault⟩
        rw [State.channel_setChannel]
        split
        · next e => rw [e]; exact hs.formed.holds c
        · exact hs.formed.holds d
      refine (State.InputsFollow.followTripany formed fun j hj => ?_).moves Moves.allocationPass
      refine (hs.inputs j).trans ?_
      cases j <;> first | rfl | exact absurd rfl hj

theorem State.InputsFollow.softTripOwn (hs : s.InputsFollow) (p : Port) (v : Bool) :
    (softTripOwn p v s).1.InputsFollow := by
  unfold Machine.softTripOwn
  split
  · exact hs
  · exact hs.softEvent p v

theorem State.InputsFollow.clearRailOwn (hs : s.InputsFollow) (p : Port) (u : Unit) :
    (clearRailOwn p u s).1.InputsFollow := by
  unfold Machine.clearRailOwn
  split
  · exact hs
  · split
    · exact hs.railEvent { s.scan with railFlag := false }
    · exact hs

theorem State.InputsFollow.setGroupOwn (hs : s.InputsFollow) (p : Port) (o : GroupOperands) :
    (setGroupOwn p o s).1.InputsFollow := by
  refine State.InputsFollow.tripAction hs.inputs fun g => ?_
  by_cases e : o.group = g
  · subst e
    simp only [State.groupsSet, Fin.getElem_fin, Vector.getElem_set_self]
    exact Group.settle_active _ _
  · have hg : (s.groupsSet o)[g] = s.group g := by
      have e' : (o.group : Nat) ≠ g := fun h => e (Fin.ext h)
      simp [State.groupsSet, e', State.group]
    rw [hg]
    exact hs.formed.active g

theorem State.InputsFollow.clearGroupOwn (hs : s.InputsFollow) (p : Port) (k : Fin 4) :
    (clearGroupOwn p k s).1.InputsFollow := by
  unfold Machine.clearGroupOwn
  split
  · exact hs
  · exact hs
  · next hl =>
    refine State.InputsFollow.tripAction hs.inputs fun g => ?_
    by_cases e : k = g
    · subst e
      simp only [Fin.getElem_fin, Vector.getElem_set_self, reduceCtorEq, false_iff, Bool.not_eq_true]
      have hn : (s.group k).condition s.trip.inputs ≠ true := fun h => by
        rw [(hs.formed.active k).mpr h] at hl; cases hl
      simpa [Group.condition] using hn
    · have e' : (k : Nat) ≠ g := fun h => e (Fin.ext h)
      simp only [Fin.getElem_fin, Vector.getElem_set, e', if_false]
      exact hs.formed.active g

theorem State.source_inputEventNoPass (s : State) (i j : TripInput) (v : Bool) :
    (s.inputEventNoPass i v).source j = s.source j := by
  rw [State.inputEventNoPass, State.source_putGroups, State.source_recordInput]

/-- SET PINS' input events: those inputs take their sources' states that stand in the list, once each and changed. -/
theorem State.InputsFollow.takePins {l : List FltPin} (hl : l.Nodup) (formed : s.GroupsFormed)
    (listed : ∀ i ∈ l, s.input (.flt i) = !s.source (.flt i))
    (others : ∀ j, (∀ i ∈ l, j ≠ .flt i) → s.input j = s.source j) : (s.takePins l).InputsFollow := by
  induction l generalizing s with
  | nil => exact ⟨formed, fun j => others j fun _ h => absurd h List.not_mem_nil⟩
  | cons i rest ih =>
    obtain ⟨hi, hrest⟩ := List.nodup_cons.mp hl
    have input : ∀ j, (s.inputEventNoPass (.flt i) (!s.input (.flt i))).input j =
        if j = .flt i then !s.input (.flt i) else s.input j := fun j => State.input_inputEventNoPass s (.flt i) j _
    refine ih hrest (.putGroups (State.settledGroups_active _)) (fun k hk => ?_) fun j hj => ?_
    · have e : TripInput.flt k ≠ .flt i := fun e => hi (by cases e; exact hk)
      rw [input, if_neg e, State.source_inputEventNoPass]
      exact listed k (List.mem_cons_of_mem _ hk)
    · rw [input, State.source_inputEventNoPass]
      split
      · next e => rw [listed i List.mem_cons_self, Bool.not_not, e]
      · next e =>
        refine others j fun k hk => ?_
        rcases List.mem_cons.mp hk with rfl | hk
        · exact e
        · exact hj k hk

theorem State.mem_changedPins (s : State) (i : FltPin) :
    i ∈ s.changedPins ↔ s.source (.flt i) ≠ s.input (.flt i) := by
  simp [State.changedPins, allGroups, State.source]

theorem State.InputsFollow.setPinsOwn (hs : s.InputsFollow) (p : Port) (o : PinOperands) :
    (setPinsOwn p o s).1.InputsFollow := by
  have source : ∀ j, (∀ i, j ≠ .flt i) → (s.storePolarities o).source j = s.source j := by
    intro j hj
    cases j with
    | flt i => exact absurd rfl (hj i)
    | rail | tripany | soft q => rfl
  have counted : ∀ u : State, TripKept .quiet u u.countPinChoice := by
    intro u
    unfold State.countPinChoice
    split
    · exact (Move.wire (L := .quiet) _ _ _ _ _ _).tripKept id
    · exact .refl
  have mem : ∀ k i, i ∈ pinOrder k (s.storePolarities o).changedPins ↔ i ∈ (s.storePolarities o).changedPins := fun k i =>
    (pinOrder_perm k _).mem_iff
  have taken : ∀ k, ((s.storePolarities o).countPinChoice.takePins
      (pinOrder k (s.storePolarities o).changedPins)).InputsFollow := by
    intro k
    have kept := counted (s.storePolarities o)
    refine .takePins ((pinOrder_perm k _).nodup_iff.mpr ((List.nodup_finRange 4).filter _)) (kept.formed ?_)
      (fun i hi => ?_) fun j hj => ?_
    · exact ⟨hs.formed.active, hs.formed.holds, hs.formed.fault⟩
    · rw [kept.input, kept.source fun e => by cases e]
      have := (State.mem_changedPins _ i).mp ((mem k i).mp hi)
      cases h1 : (s.storePolarities o).source (.flt i) <;> cases h2 : (s.storePolarities o).input (.flt i) <;> simp_all
    · rw [kept.input, kept.source fun _ => id]
      by_cases hflt : ∃ i, j = .flt i
      · obtain ⟨i, rfl⟩ := hflt
        by_contra hne
        exact hj i ((mem k i).mpr ((State.mem_changedPins _ i).mpr fun e => hne e.symm)) rfl
      · rw [source j fun i e => hflt ⟨i, e⟩]
        exact hs.inputs j
  unfold Machine.setPinsOwn
  simp only
  split
  · split
    · exact (taken _).moves Moves.allocationPass
    · exact taken _
  · exact (taken _).moves (Moves.derateEvent trivial _)

/-! ### RESTART -/

theorem State.restartChannels_channel (s : State) (c : Channel) :
    s.restartChannels.channel c = (s.channel c).restart := by
  dsimp only [State.restartChannels, State.channel]
  exact Vector.getElem_ofFn _

/-- A group restarted is ACTIVE exactly while its condition is asserted (R113). -/
theorem Group.restart_active (g : Group) (inputs : BitVec 10) :
    (g.restart inputs).state = .active ↔ (g.restart inputs).condition inputs = true := by
  have h : (g.restart inputs).condition inputs = g.condition inputs := rfl
  rw [h, Group.restart]
  split <;> simp_all

theorem State.clearSofts_soft (s : State) (p : Port) : (s.clearSofts.session p).soft = false := by
  cases p <;> rfl

theorem getLsbD_flt_mask (x : BitVec 10) (j : TripInput) :
    (x &&& 0xF#10).getLsbD j.number = match j with | .flt i => x.getLsbD i.val | _ => false := by
  rw [BitVec.getLsbD_and]
  cases j with
  | flt i => rcases i with ⟨i, hi⟩; interval_cases i <;> simp [TripInput.number]
  | rail => simp [TripInput.number]
  | tripany => simp [TripInput.number]
  | soft p => cases p <;> simp [TripInput.number]

/-- What RESTART at the allocator, the loops and the scanner leaves for the trip unit (R19, R86, R99). -/
theorem State.restartScanner_frame (s : State) :
    s.restartClaims.restartChannels.restartScanner.trip = s.trip ∧
      s.restartClaims.restartChannels.restartScanner.scan.railFlag = false ∧
      s.restartClaims.restartChannels.restartScanner.anyTripped = false := by
  refine ⟨by dsimp only [State.restartScanner, State.setScan, State.restartChannels, State.restartClaims],
    by dsimp only [State.restartScanner, State.setScan], Bool.eq_false_iff.mpr fun h => ?_⟩
  obtain ⟨c, hc⟩ := (State.anyTripped_iff _).mp h
  rw [State.restartScanner, State.channel_of_setScan, State.restartChannels_channel] at hc
  cases hc

/-- RESTART at the trip unit, once the loops and the scanner have taken it (R113). -/
theorem State.InputsFollow.restartGroups (hflt : ∀ i, s.input (.flt i) = s.source (.flt i)) (hrail : s.scan.railFlag = false)
    (htripped : s.anyTripped = false) : s.restartGroups.InputsFollow := by
  have inputs : ∀ j, (s.clearSofts.setTrip { s.trip with inputs := s.trip.inputs &&& 0xF#10 }).input j =
      (s.clearSofts.setTrip { s.trip with inputs := s.trip.inputs &&& 0xF#10 }).source j := by
    intro j
    rw [State.input, State.setTrip_trip, getLsbD_flt_mask]
    cases j with
    | flt i => exact hflt i
    | rail => exact hrail.symm
    | tripany =>
      have hchannel : ∀ c, s.clearSofts.channel c = s.channel c := fun _ => rfl
      have hany : s.clearSofts.anyTripped = s.anyTripped := State.anyTripped_congr fun c => by rw [hchannel]
      exact (hany.trans htripped).symm
    | soft p =>
      simp only [State.source, State.session_of_setTrip]
      exact (s.clearSofts_soft p).symm
  unfold State.restartGroups
  simp only
  refine .putGroups inputs fun g => ?_
  simp only [Fin.getElem_fin, Vector.getElem_ofFn]
  exact Group.restart_active _ _

theorem State.InputsFollow.restartPart (hs : s.InputsFollow) (sup : Port) : (s.restartPart sup).InputsFollow := by
  have groups : s.restartClaims.restartChannels.restartScanner.restartGroups.InputsFollow := by
    obtain ⟨htrip, hrail, htripped⟩ := s.restartScanner_frame
    refine .restartGroups (fun i => ?_) hrail htripped
    simp only [State.input, State.source, htrip]
    exact hs.inputs (.flt i)
  have sessions : ∀ u : State, u.InputsFollow → (allPorts.foldl (fun t p => t.restartSession sup p) u).InputsFollow := by
    intro u hu
    refine List.foldlRecOn allPorts _ hu fun t ht p _ => ?_
    unfold State.restartSession
    split
    · split
      · exact ht.endSession p .closed
      · exact ht.lapse p
    · exact ht
  have empties : ∀ u : State, u.InputsFollow → (allPorts.foldl (fun t p => t.emptyNotices p) u).InputsFollow := fun u hu =>
    hu.moves (Moves.foldl (fun _ p => (Move.empty p).run) allPorts u)
  unfold State.restartPart
  exact ((empties _ (sessions _ groups)).moves (Move.wire _ _ .restart _ _ _).run).moves Moves.allocationPass

end Events

/-! ### Commands -/

theorem State.InputsFollow.onto {s : State} (o : State) (hs : s.InputsFollow) : (s.onto o).InputsFollow :=
  ⟨⟨hs.formed.active, hs.formed.holds, hs.formed.fault⟩, fun j => by
    refine (hs.inputs j).trans ?_
    cases j <;> rfl⟩

/-- The commands that may change an input or what it follows. -/
theorem State.InputsFollow.exec_follows {c : Instr} (hc : followsInputs c = true) {s t : State} (hs : s.InputsFollow)
    (h : exec c s = .next t) : t.InputsFollow := by
  have take {u : State} (e : exec c s = .next u) (hu : u.InputsFollow) : t.InputsFollow := by
    rw [e] at h; cases h; exact hu
  have kept {b : Prop} [Decidable b] {u : State} (hu : u.InputsFollow) : (if b then s else u).InputsFollow := by
    split
    · exact hs
    · exact hu
  have whether {b : Prop} [Decidable b] {u : State} (hu : u.InputsFollow) : (if b then u else s).InputsFollow := by
    split
    · exact hu
    · exact hs
  have executed {α : Type} {opcode : Byte} {decode : List Byte → Option α} {gate : Gate} {sup : Bool}
      {own : Port → α → State → State × Reply} (hown : ∀ p a s, s.InputsFollow → (own p a s).1.InputsFollow) :
      (s.execute opcode decode gate sup own).InputsFollow := State.execute_keeps (fun _ o h => h.onto o) hown hs
  cases c with
  | fltPinChange pin level => exact take rfl (kept (hs.fltLevel pin level))
  | channelConversionEnd ch input => exact take rfl (kept (hs.channelConversion ch _))
  | railConversionEnd input => exact take rfl (kept (hs.railConversion _))
  | leaseTick p => exact take rfl (whether (hs.tick p))
  | leaseExpiry p => exact take rfl (whether (hs.tick p))
  | commandTransaction p part bytes | fetch p part bytes | statusTransaction p part bytes | portReset p part bytes =>
    exact take rfl (hs.stretch p _ part bytes)
  | closeSession => exact take rfl (executed fun p _ _ h => h.endSession p .closed)
  | clearTrip => exact take rfl (executed fun p ch _ h => h.clearTripOwn p ch)
  | softTrip => exact take rfl (executed fun p v _ h => h.softTripOwn p v)
  | clearRail => exact take rfl (executed fun p u _ h => h.clearRailOwn p u)
  | setGroup => exact take rfl (executed fun p o _ h => h.setGroupOwn p o)
  | clearGroup => exact take rfl (executed fun p g _ h => h.clearGroupOwn p g)
  | setPins => exact take rfl (executed fun p o _ h => h.setPinsOwn p o)
  | evict =>
    refine take rfl (executed fun p q u h => ?_)
    unfold evictOwn
    split
    · exact h
    · split
      · exact h.lapse q
      · exact h
  | restart => exact take rfl (executed fun p _ _ h => by dsimp only [restartOwn]; exact h.restartPart p)
  | _ => cases hc

/-! ### The resets -/

theorem Group.reset_inactive (inputs : BitVec 10) : Group.reset.state = .active ↔ Group.reset.condition inputs = true := by
  simp [Group.reset, Group.condition]

theorem State.InputsFollow.of_reset {t : State} (groups : t.trip.groups = TripUnit.reset.groups)
    (fault : t.trip.fault = false) (hold : ∀ c, (t.channel c).hold = false) (inputs : ∀ j, t.input j = t.source j) :
    t.InputsFollow := by
  have group : ∀ g : Fin 4, t.trip.groups[g] = Group.reset := fun g => by rw [groups]; exact Vector.getElem_replicate _
  refine ⟨⟨fun g => ?_, fun c => ?_, ?_⟩, inputs⟩
  · rw [State.group, group]; exact Group.reset_inactive _
  · rw [hold]; simp [heldBy, group, Group.reset]
  · rw [fault]; simp [someGroupHolds, group, Group.reset]

theorem State.initial_channel (s : State) (cause : ResetCause) (c : Channel) :
    (s.initial cause).channel c = ChannelRecord.reset := by
  dsimp only [State.initial, State.reset, State.channel]
  exact Vector.getElem_replicate _

theorem State.initial_anyTripped (s : State) (cause : ResetCause) : (s.initial cause).anyTripped = false := by
  refine Bool.eq_false_iff.mpr fun h => ?_
  obtain ⟨c, hc⟩ := (State.anyTripped_iff _).mp h
  rw [State.initial_channel] at hc
  cases hc

theorem TripUnitSound.initial (s : State) (cause : ResetCause) : TripUnitSound (s.initial cause) := by
  refine State.InputsFollow.sound (.of_reset ?_ ?_ (fun c => by rw [State.initial_channel]; rfl) fun j => ?_) (.initial s cause)
  · dsimp only [State.initial, State.reset]
  · dsimp only [State.initial, State.reset, TripUnit.reset]
  · have zero : (s.initial cause).input j = false := by
      dsimp only [State.input, State.initial, State.reset, TripUnit.reset]
      exact BitVec.getLsbD_zero
    rw [zero]
    cases j with
    | flt i => simp [State.source, State.initial, State.reset, TripUnit.reset, assertedAt]
    | rail => dsimp only [State.source, State.initial, State.reset, Scanner.reset]
    | tripany => exact (s.initial_anyTripped cause).symm
    | soft p => cases p <;> rfl

/-- Settles O7: the resets establish it, the release samples the pins under it, the commands that leave the inputs alone keep
it by their moves, and each other command has its input events. -/
theorem tripUnitStaysSound : Obligations.TripUnitStaysSound := by
  refine step_keeps (fun s q h => ⟨h.held.queue q, h.flt, h.rail, h.tripany, h.soft, h.active, h.holds, h.fault⟩)
    fun c s t h hst => ?_
  obtain ⟨held, rfl | ⟨cause, rfl⟩ | ⟨hr, sup, flt, derate, rfl⟩ | ⟨-, -, -, hm⟩⟩ := h.held.exec_cases hst
  · exact h
  · exact .initial s cause
  · have hinit := h.held hr
    refine State.InputsFollow.sound (.of_reset ?_ ?_ (fun d => ?_) fun j => ?_) held
    · rw [State.releaseReset_eq, hinit]; dsimp only [State.initial, State.reset]
    · rw [State.releaseReset_eq, hinit]; dsimp only [State.initial, State.reset, TripUnit.reset]
    · rw [State.releaseReset_eq, hinit]
      exact congrArg ChannelRecord.hold (s.initial_channel s.cause d)
    · rw [State.input, State.releaseReset_eq]
      dsimp only
      rw [fltInputs_getLsbD]
      cases j with
      | flt i =>
        have hpol : s.trip.fltPolarity[i] = .activeLow := by
          rw [hinit]; dsimp only [State.initial, State.reset, TripUnit.reset]; exact Vector.getElem_replicate _
        simp only [State.source, hpol, assertedAt]
      | rail =>
        change false = s.scan.railFlag
        rw [hinit]; dsimp only [State.initial, State.reset, Scanner.reset]
      | tripany => exact ((congrArg State.anyTripped hinit).trans (s.initial_anyTripped s.cause)).symm
      | soft p =>
        change false = ((s.sampleStraps sup).session p).soft
        rw [State.session_sampleStraps, hinit]
        cases p <;> rfl
  · refine State.InputsFollow.sound ?_ held
    cases hc : followsInputs c with
    | true => exact h.follow.exec_follows hc hst
    | false =>
      refine (hm.tripKept fun h => ?_).follow (fun h => ?_) h.follow
      · rw [show followsInputs c = true from h] at hc; cases hc
      · obtain ⟨ch, input, rfl⟩ := h; cases hc

end Sys2Proof.Machine
end

section
/-! SUPPORT. The invariant of the claim table and the channel loops (R26, R36, R42, R44), channel by channel: the grants on a
channel, its record and its release amount. A trip leaves one channel out of it until the allocator has taken its report. -/

namespace Sys2Proof.Machine

/-! ### The grants on a channel -/

/-- The grant that a slot holds on a channel: the record's handle and amount. -/
def Slot.grantOn (x : Slot) (i : Fin 24) (d : Channel) : Option (Handle × Nat) :=
  x.record.bind fun r => if r.state = .granted ∧ r.channel = d then some (⟨x.gen, i⟩, r.amount) else none

def State.grantOf (s : State) (d : Channel) (i : Fin 24) : Option (Handle × Nat) := (s.slot i).grantOn i d

theorem State.grantOf_eq_some {s : State} {d : Channel} {i : Fin 24} {x : Handle × Nat} :
    s.grantOf d i = some x ↔ ∃ r, s.record i = some r ∧ r.state = .granted ∧ r.channel = d ∧ x = (s.handleAt i, r.amount) := by
  simp only [State.grantOf, Slot.grantOn, Option.bind_eq_some_iff, Option.ite_none_right_eq_some, Option.some.injEq]
  constructor
  · rintro ⟨r, hr, ⟨hg, hd⟩, rfl⟩; exact ⟨r, hr, hg, hd, rfl⟩
  · rintro ⟨r, hr, hg, hd, rfl⟩; exact ⟨r, hr, ⟨hg, hd⟩, rfl⟩

theorem State.grantOf_of_granted {s : State} {i : Fin 24} {r : Claim} (hr : s.record i = some r) (hg : r.state = .granted) :
    s.grantOf r.channel i = some (s.handleAt i, r.amount) := State.grantOf_eq_some.mpr ⟨r, hr, hg, rfl, rfl⟩

theorem State.grantOf_slot {s : State} {d : Channel} {i : Fin 24} {h : Handle} {a : Nat} (hg : s.grantOf d i = some (h, a)) :
    h.slot = i := by
  obtain ⟨_, _, _, _, e⟩ := State.grantOf_eq_some.mp hg
  cases e
  rfl

theorem Slot.grantOn_of_none (g : BitVec 8) (i : Fin 24) (d : Channel) : Slot.grantOn ⟨g, none⟩ i d = none := rfl

theorem Slot.grantOn_of_pending {g : BitVec 8} {r : Claim} (h : r.state = .pending) (i : Fin 24) (d : Channel) :
    Slot.grantOn ⟨g, some r⟩ i d = none := by
  simp [Slot.grantOn, h]

theorem Slot.grantOn_of_ne {x : Slot} {i : Fin 24} {d : Channel} (h : ∀ r, x.record = some r → r.channel ≠ d) :
    x.grantOn i d = none := by
  unfold Slot.grantOn
  cases hx : x.record with
  | none => rfl
  | some r => exact if_neg fun e => h r hx e.2

/-- One slot replaced changes the grant of that slot alone. -/
theorem State.grantOf_of_set {s t : State} {i : Fin 24} {x : Slot} (h : t.slots = s.slots.set i x) (d : Channel) :
    t.grantOf d = Function.update (s.grantOf d) i (x.grantOn i d) := by
  funext j
  rw [State.grantOf, State.slot_of_set h]
  by_cases e : j = i
  · subst e; simp
  · simp [e, State.grantOf]

theorem State.grantOf_of_set_same {s t : State} {i : Fin 24} {x : Slot} (h : t.slots = s.slots.set i x) {d : Channel}
    (hx : x.grantOn i d = s.grantOf d i) : t.grantOf d = s.grantOf d := by
  rw [State.grantOf_of_set h, hx, Function.update_eq_self]

theorem State.grantOf_congr {s t : State} (h : t.slots = s.slots) (d : Channel) : t.grantOf d = s.grantOf d := by
  funext i
  simp only [State.grantOf, State.slot, h]

/-! ### The agreement on one channel -/

/-- The grants on a channel, its record and its release amount agree (R26, R42, R44). -/
structure Agrees (g : Fin 24 → Option (Handle × Nat)) (r : ChannelRecord) (n : Nat) : Prop where
  held : ∀ i h a, g i = some (h, a) → r.state.grantedState = true ∧ r.holder = some h ∧ r.target = a
  named : r.state.grantedState = true → ∃ i x, g i = some x
  target : r.state = .releasing → r.target = n ∧ r.holder = none
  amount : r.state ≠ .releasing → n = 0

/-- Two records that the agreement does not tell apart. -/
structure ChannelRecord.Inert (r x : ChannelRecord) : Prop where
  granted : x.state.grantedState = r.state.grantedState
  releasing : x.state = .releasing ↔ r.state = .releasing
  holder : x.holder = r.holder
  target : x.target = r.target

theorem ChannelRecord.Inert.of_settling {r x : ChannelRecord} (hr : r.state.settling = true) (hx : x.state.settling = true)
    (hh : x.holder = r.holder) (ht : x.target = r.target) : r.Inert x := by
  refine ⟨?_, ?_, hh, ht⟩
  · rw [(LoopState.guarded_of_settling hr).2, (LoopState.guarded_of_settling hx).2]
  · constructor <;> intro e
    · rw [e] at hx; cases hx
    · rw [e] at hr; cases hr

theorem ChannelRecord.Inert.of_state {r x : ChannelRecord} (hs : x.state = r.state) (hh : x.holder = r.holder)
    (ht : x.target = r.target) : r.Inert x := ⟨by rw [hs], by rw [hs], hh, ht⟩

theorem ChannelRecord.Inert.trans {r x y : ChannelRecord} (h : r.Inert x) (h' : x.Inert y) : r.Inert y :=
  ⟨h'.granted.trans h.granted, h'.releasing.trans h.releasing, h'.holder.trans h.holder, h'.target.trans h.target⟩

theorem LoopState.releasing_of_not {x : LoopState} (h : x = .releasing) : x.grantedState = false := by rw [h]; rfl

section Agrees
variable {g : Fin 24 → Option (Handle × Nat)} {r x : ChannelRecord} {n : Nat} {i : Fin 24} {h : Handle} {a : Nat}

theorem Agrees.inert (hs : Agrees g r n) (hx : r.Inert x) : Agrees g x n where
  held j h a hj := by rw [hx.granted, hx.holder, hx.target]; exact hs.held j h a hj
  named hg := hs.named (hx.granted ▸ hg)
  target hr := by rw [hx.holder, hx.target]; exact hs.target (hx.releasing.mp hr)
  amount hr := hs.amount fun e => hr (hx.releasing.mpr e)

/-- No grant stands on a channel that is in no granted state. -/
theorem Agrees.none (hs : Agrees g r n) (hg : r.state.grantedState = false) (j : Fin 24) : g j = none := by
  cases hj : g j with
  | none => rfl
  | some y => exact absurd ((hs.held j y.1 y.2 hj).1.symm.trans hg) (by decide)

/-- A channel in no granted state and not RELEASING, with no grant and no release amount. -/
theorem Agrees.of_rest (hg : ∀ j, g j = Option.none) (hx : x.state.grantedState = false) (hr : x.state ≠ .releasing) :
    Agrees g x 0 where
  held j h a hj := by rw [hg j] at hj; cases hj
  named h := by rw [hx] at h; cases h
  target h := absurd h hr
  amount _ := rfl

theorem Agrees.grant (hs : Agrees g r n) (hr : r.state = .idle) :
    Agrees (Function.update g i (some (h, a))) (r.grant h a) n := by
  have hn : n = 0 := hs.amount (by rw [hr]; decide)
  have state : (r.grant h a).state.grantedState = true ∧ (r.grant h a).state ≠ .releasing ∧
      (r.grant h a).holder = some h ∧ (r.grant h a).target = a := by
    unfold ChannelRecord.grant
    simp only
    split <;> exact ⟨rfl, by simp, rfl, rfl⟩
  obtain ⟨hgranted, hreleasing, hholder, htarget⟩ := state
  refine ⟨fun j h' a' hj => ?_, fun _ => ⟨i, (h, a), Function.update_self ..⟩, fun e => absurd e hreleasing, fun _ => hn⟩
  by_cases e : j = i
  · subst e
    rw [Function.update_self] at hj
    cases hj
    exact ⟨hgranted, hholder, htarget⟩
  · rw [Function.update_of_ne e, hs.none (by rw [hr]; rfl)] at hj
    cases hj

/-- A channel has one grant at most, where each names its own slot. -/
theorem Agrees.unique (hs : Agrees g r n) (slot : ∀ j h a, g j = some (h, a) → h.slot = j) (hi : g i = some (h, a))
    {j : Fin 24} (e : j ≠ i) : g j = Option.none := by
  cases hj : g j with
  | none => rfl
  | some y =>
    have same := (hs.held j y.1 y.2 hj).2.1.symm.trans (hs.held i h a hi).2.1
    exact absurd ((slot j y.1 y.2 hj).symm.trans ((congrArg Handle.slot (Option.some.inj same)).trans (slot i h a hi))) e

theorem Agrees.freed (hs : Agrees g r n) (slot : ∀ j h a, g j = some (h, a) → h.slot = j) (hi : g i = some (h, a))
    (j : Fin 24) : Function.update g i Option.none j = Option.none := by
  by_cases e : j = i
  · subst e; exact Function.update_self ..
  · rw [Function.update_of_ne e]; exact hs.unique slot hi e

/-- The end of a grant in a wind-down. -/
theorem Agrees.windDown (hs : Agrees g r n) (slot : ∀ j h a, g j = some (h, a) → h.slot = j) (hi : g i = some (h, a))
    (hx : x.state = .releasing) (ht : x.target = a) (hh : x.holder = Option.none) :
    Agrees (Function.update g i Option.none) x a where
  held j h' a' hj := by rw [hs.freed slot hi] at hj; cases hj
  named hg := by rw [hx] at hg; cases hg
  target _ := ⟨ht, hh⟩
  amount hr := absurd hx hr

theorem Agrees.retarget (hs : Agrees g r n) (slot : ∀ j h a, g j = some (h, a) → h.slot = j) (hi : g i = some (h, a))
    {b : Nat} (hx : x.state = r.state) (ht : x.target = b) (hh : x.holder = r.holder) :
    Agrees (Function.update g i (some (h, b))) x n := by
  obtain ⟨hgranted, hholder, -⟩ := hs.held i h a hi
  refine ⟨fun j h' a' hj => ?_, fun _ => ⟨i, _, Function.update_self ..⟩, fun e => ?_, fun e => hs.amount (hx ▸ e)⟩
  · by_cases e : j = i
    · subst e
      rw [Function.update_self] at hj
      cases hj
      exact ⟨hx ▸ hgranted, hh.trans hholder, ht⟩
    · rw [Function.update_of_ne e, hs.unique slot hi e] at hj
      cases hj
  · rw [hx] at e
    rw [LoopState.releasing_of_not e] at hgranted
    cases hgranted

end Agrees

/-! ### The agreement on all channels but some -/

/-- The agreement on every channel that is not left out, and the releasing sum (R26). -/
structure State.AgreeBut (E : Channel → Prop) (s : State) : Prop where
  on : ∀ d, ¬ E d → Agrees (s.grantOf d) (s.channel d) (s.releaseOf d)
  sum : s.budget.releasing = s.releaseTotal

/-- The agreement on every channel. -/
abbrev State.Agree (s : State) : Prop := s.AgreeBut fun _ => False

theorem State.agree_iff (s : State) : GrantsAgree s ↔ s.Agree := by
  constructor
  · intro h
    refine ⟨fun d _ => ⟨fun i k a hg => ?_, fun hd => ?_, h.releasing_target d, h.release_only_releasing d⟩, h.releasing_sum⟩
    · obtain ⟨r, hr, hgr, rfl, e⟩ := State.grantOf_eq_some.mp hg
      cases e
      exact h.granted_held_by_loop i r hr hgr
    · obtain ⟨i, r, hr, hgr, rfl⟩ := h.loop_names_record d hd
      exact ⟨i, _, State.grantOf_of_granted hr hgr⟩
  · intro h
    refine ⟨fun i r hr hg => (h.on r.channel id).held i _ _ (State.grantOf_of_granted hr hg), fun c hc => ?_,
      fun c => (h.on c id).target, fun c => (h.on c id).amount, h.sum⟩
    obtain ⟨i, x, hx⟩ := (h.on c id).named hc
    obtain ⟨r, hr, hg, hch, -⟩ := State.grantOf_eq_some.mp hx
    exact ⟨i, r, hr, hg, hch⟩

theorem State.releaseOf_le_total (s : State) (c : Channel) : s.releaseOf c ≤ s.releaseTotal :=
  List.le_sum_of_mem (List.mem_map_of_mem (mem_allChannels c))

section But
variable {E : Channel → Prop} {s t : State} {L : Allowed}

/-- What changes nothing that the agreement speaks of. -/
theorem State.AgreeBut.congr (hs : s.AgreeBut E) (hslots : ∀ d, t.grantOf d = s.grantOf d)
    (hchannels : t.channels = s.channels) (hreleases : t.releases = s.releases)
    (hsum : t.budget.releasing = s.budget.releasing) : t.AgreeBut E := by
  have hc : ∀ d, t.channel d = s.channel d := fun d => by simp only [State.channel, hchannels]
  have hr : t.releaseOf = s.releaseOf := funext fun d => by simp only [State.releaseOf, hreleases]
  refine ⟨fun d hd => ?_, ?_⟩
  · rw [hslots, hc, hr]; exact hs.on d hd
  · rw [hsum, State.releaseTotal, hr]; exact hs.sum

/-- What changes one channel alone. -/
theorem State.AgreeBut.update {F : Channel → Prop} (hs : s.AgreeBut E) (c : Channel) (hF : ∀ d, d ≠ c → ¬ F d → ¬ E d)
    (others : ∀ d, d ≠ c → t.grantOf d = s.grantOf d ∧ t.channel d = s.channel d ∧ t.releaseOf d = s.releaseOf d)
    (on : ¬ F c → Agrees (t.grantOf c) (t.channel c) (t.releaseOf c))
    (sum : s.releaseOf c ≤ s.budget.releasing →
      t.budget.releasing + s.releaseOf c = s.budget.releasing + t.releaseOf c) : t.AgreeBut F := by
  refine ⟨fun d hd => ?_, ?_⟩
  · by_cases e : d = c
    · subst e; exact on hd
    · obtain ⟨hg, hc, hr⟩ := others d e
      rw [hg, hc, hr]; exact hs.on d (hF d e hd)
  · have htotal := sum_finRange_of_update (f := t.releaseOf) (g := s.releaseOf) c fun d hd => (others d hd).2.2
    have hsum := sum (hs.sum ▸ s.releaseOf_le_total c)
    have hold := hs.sum
    unfold State.releaseTotal allChannels at hold ⊢
    omega

/-- A channel record that the agreement does not tell apart from the one before. -/
theorem State.AgreeBut.setChannel (hs : s.AgreeBut E) {c : Channel} {x : ChannelRecord}
    (h : ¬ E c → Agrees (s.grantOf c) (s.channel c) (s.releaseOf c) → Agrees (s.grantOf c) x (s.releaseOf c)) :
    (s.setChannel c x).AgreeBut E :=
  hs.update c (fun _ _ => id) (fun d hd => ⟨rfl, State.channel_setChannel_ne s x hd, rfl⟩)
    (fun hc => by rw [State.channel_setChannel_self]; exact h hc (hs.on c hc)) fun _ => rfl

/-! ### The moves that an action of the trip unit makes -/

/-- HOLD and UNHOLD, on a channel that winds down and on any other (R69 to R72). -/
theorem ChannelRecord.withHold_inert (r : ChannelRecord) (held : Bool)
    (h : ¬ (held = true ∧ r.hold = false ∧ r.state = .releasing)) : r.Inert (r.withHold held) := by
  unfold ChannelRecord.withHold
  split
  · exact .of_state rfl rfl rfl
  · next e =>
    cases held with
    | true =>
      have hr : r.state ≠ .releasing := fun e' => h ⟨rfl, by simpa using e, e'⟩
      simp only [if_true]
      unfold ChannelRecord.whenHeld
      cases hst : r.state with
      | releasing => exact absurd hst hr
      | _ => exact ⟨by simp [hst, LoopState.grantedState], by simp [hst], rfl, rfl⟩
    | false =>
      simp only [Bool.false_eq_true, if_false]
      unfold ChannelRecord.whenResumed
      cases hst : r.state with
      | _ => exact ⟨by simp [hst, LoopState.grantedState], by simp [hst], rfl, rfl⟩

theorem State.AgreeBut.formHold (hs : s.AgreeBut E) (before after : Vector Group 4) (c : Channel) :
    (s.formHold before after c).AgreeBut E := by
  have hgrants : ∀ d, (s.formHold before after c).grantOf d = s.grantOf d :=
    State.grantOf_congr (s.formHold_frame before after c).1
  refine hs.update c (fun _ _ => id) (fun d hd => ⟨hgrants d, ?_, ?_⟩) (fun hc => ?_) fun hle => ?_
  · rw [State.formHold_channel, if_neg hd]
  · rw [State.formHold_releaseOf, if_neg fun e => hd e.1]
  · rw [hgrants, State.formHold_channel, if_pos rfl, State.formHold_releaseOf]
    simp only [true_and]
    split
    · next h =>
      obtain ⟨hheld, hhold, hrel⟩ := h
      have hx : (s.channel c).withHold (heldBy after c) = { (s.channel c).idled with hold := true } := by
        unfold ChannelRecord.withHold ChannelRecord.whenHeld
        rw [hheld, hhold, hrel]
        rfl
      rw [hx]
      exact .of_rest ((hs.on c hc).none (LoopState.releasing_of_not hrel)) rfl (by simp [ChannelRecord.idled])
    · next h => exact (hs.on c hc).inert ((s.channel c).withHold_inert _ h)
  · rw [State.formHold_releasing, State.formHold_releaseOf]
    simp only [true_and]
    split
    · omega
    · rfl

theorem State.AgreeBut.grantSlot (hs : s.AgreeBut E) {i : Fin 24} {r : Claim}
    (hr : s.record i = some r) (hp : r.state = .pending) (he : s.eligible r = true) : (s.grantSlot i r).AgreeBut E := by
  obtain ⟨hidle, -, -⟩ := State.eligible_idle he
  have hnone : ∀ d, s.grantOf d i = none := by
    intro d
    unfold State.grantOf Slot.grantOn
    rw [show (s.slot i).record = some r from hr]
    simp [hp]
  have hslots : (s.grantSlot i r).slots = s.slots.set i ⟨(s.slot i).gen, some { r with state := .granted }⟩ := by
    rw [State.grantSlot_eq]
  have hchannel : ∀ d, (s.grantSlot i r).channel d =
      if d = r.channel then (s.channel r.channel).grant (s.handleAt i) r.amount else s.channel d := by
    intro d
    rw [State.grantSlot_eq]
    exact State.channel_setChannel s r.channel d _
  have hrelease : ∀ d, (s.grantSlot i r).releaseOf d = s.releaseOf d := by
    intro d; rw [State.grantSlot_eq]; rfl
  refine hs.update r.channel (fun _ _ => id) (fun d hd => ⟨State.grantOf_of_set_same hslots ?_, ?_, hrelease d⟩) (fun hc => ?_) fun _ => ?_
  · rw [hnone]
    exact Slot.grantOn_of_ne fun q hq => by cases hq; exact Ne.symm hd
  · rw [hchannel, if_neg hd]
  · rw [hchannel, if_pos rfl, hrelease, State.grantOf_of_set hslots]
    have hon : Slot.grantOn ⟨(s.slot i).gen, some { r with state := .granted }⟩ i r.channel =
        some (s.handleAt i, r.amount) := by
      simp [Slot.grantOn, State.handleAt]
    rw [hon]
    exact (hs.on r.channel hc).grant hidle
  · rw [hrelease, State.grantSlot_eq]

/-! ### The other moves -/

/-- The end of a grant, a slot's record being replaced by one that is no grant (R14, R28, R34). -/
theorem State.Agree.endGrant (hs : s.Agree) {i : Fin 24} {r : Claim} (hr : s.record i = some r) (hg : r.state = .granted)
    {x : Slot} (hx : ∀ d, x.grantOn i d = none) (hslots : t.slots = s.slots.set i x)
    (hchannels : t.channels = (s.sendRelease r.channel r.amount).channels)
    (hreleases : t.releases = (s.sendRelease r.channel r.amount).releases)
    (hsum : t.budget.releasing = (s.sendRelease r.channel r.amount).budget.releasing) : t.Agree := by
  have on := hs.on r.channel id
  have grant := State.grantOf_of_granted hr hg
  have slot : ∀ j h a, s.grantOf r.channel j = some (h, a) → h.slot = j := fun j h a => State.grantOf_slot
  obtain ⟨hstate, -, -⟩ := on.held i _ _ grant
  have hnot : (s.channel r.channel).state ≠ .releasing := fun e => by rw [e] at hstate; cases hstate
  have hzero : s.releaseOf r.channel = 0 := on.amount hnot
  rw [State.sendRelease_eq s r.channel r.amount hstate] at hchannels hreleases hsum
  have gone : t.grantOf r.channel = Function.update (s.grantOf r.channel) i none := by
    rw [State.grantOf_of_set hslots, hx]
  have other : ∀ d, d ≠ r.channel → t.grantOf d = s.grantOf d := by
    intro d hd
    refine State.grantOf_of_set_same hslots ((hx d).trans (Slot.grantOn_of_ne fun q hq => ?_).symm)
    cases hr.symm.trans hq
    exact Ne.symm hd
  have hc : ∀ d, t.channel d = (withGrantEnded s r.channel r.amount).channel d := fun d => by
    simp only [State.channel, hchannels]
  have hrel : ∀ d, t.releaseOf d = (withGrantEnded s r.channel r.amount).releaseOf d := fun d => by
    simp only [State.releaseOf, hreleases]
  unfold withGrantEnded at hc hrel hsum
  split at hsum
  · next h =>
    simp only [if_pos h] at hc hrel
    have hc : ∀ d, t.channel d = if d = r.channel then
        { s.channel r.channel with state := .releasing, holder := none, target := r.amount } else s.channel d :=
      fun d => (hc d).trans (State.channel_setChannel s r.channel d _)
    have hrel : ∀ d, t.releaseOf d = if d = r.channel then r.amount else s.releaseOf d :=
      fun d => (hrel d).trans (State.releaseOf_setRelease s r.channel d _)
    refine hs.update r.channel (fun _ _ => id) (fun d hd => ⟨other d hd, by rw [hc, if_neg hd], by rw [hrel, if_neg hd]⟩)
      (fun _ => ?_) fun _ => ?_
    · rw [hc, if_pos rfl, hrel, if_pos rfl, gone]
      exact on.windDown slot grant rfl rfl rfl
    · rw [hrel, if_pos rfl, hzero, hsum]; rfl
  · next h =>
    simp only [if_neg h] at hc hrel
    have hc : ∀ d, t.channel d = if d = r.channel then (s.channel r.channel).idled else s.channel d :=
      fun d => (hc d).trans (State.channel_setChannel s r.channel d _)
    have hrel : ∀ d, t.releaseOf d = if d = r.channel then 0 else s.releaseOf d :=
      fun d => (hrel d).trans (State.releaseOf_setRelease s r.channel d _)
    refine hs.update r.channel (fun _ _ => id) (fun d hd => ⟨other d hd, by rw [hc, if_neg hd], by rw [hrel, if_neg hd]⟩)
      (fun _ => ?_) fun _ => ?_
    · rw [hc, if_pos rfl, hrel, if_pos rfl, gone]
      exact .of_rest (on.freed slot grant) rfl (by simp [ChannelRecord.idled])
    · rw [hrel, if_pos rfl, hzero, hsum]; rfl

/-- An ADJUST of a GRANTED record and the TARGET that follows (R13). -/
theorem State.Agree.adjust (hs : s.Agree) {i : Fin 24} {r : Claim} {a : Nat} (hr : s.record i = some r)
    (hg : r.state = .granted) (hslots : t.slots = s.slots.set i ⟨(s.slot i).gen, some { r with amount := a }⟩)
    (hchannels : t.channels = s.channels.set r.channel ((s.channel r.channel).retarget a))
    (hreleases : t.releases = s.releases) (hsum : t.budget.releasing = s.budget.releasing) : t.Agree := by
  have on := hs.on r.channel id
  have grant := State.grantOf_of_granted hr hg
  have slot : ∀ j h a, s.grantOf r.channel j = some (h, a) → h.slot = j := fun j h a => State.grantOf_slot
  obtain ⟨hstate, -, -⟩ := on.held i _ _ grant
  have hc : ∀ d, t.channel d = if d = r.channel then (s.channel r.channel).retarget a else s.channel d := by
    intro d
    rw [State.channel, hchannels]
    exact State.channel_setChannel s r.channel d _
  have hrel : ∀ d, t.releaseOf d = s.releaseOf d := fun d => by simp only [State.releaseOf, hreleases]
  refine hs.update r.channel (fun _ _ => id) (fun d hd => ⟨State.grantOf_of_set_same hslots ?_, by rw [hc, if_neg hd], hrel d⟩) (fun _ => ?_)
    fun _ => by rw [hrel, hsum]
  · refine (Slot.grantOn_of_ne fun q hq => ?_).trans (Slot.grantOn_of_ne fun q hq => ?_).symm
    · cases hq; exact Ne.symm hd
    · cases hr.symm.trans hq; exact Ne.symm hd
  · rw [hc, if_pos rfl, hrel, State.grantOf_of_set hslots]
    have hon : Slot.grantOn ⟨(s.slot i).gen, some { r with amount := a }⟩ i r.channel = some (s.handleAt i, a) := by
      simp [Slot.grantOn, hg, State.handleAt]
    rw [hon, ChannelRecord.retarget_of_granted _ _ hstate]
    refine on.retarget slot grant ?_ ?_ ?_ <;> split <;> rfl

/-- IDLE REACHED of a channel that has no grant (R36). -/
theorem State.AgreeBut.idleReached {F : Channel → Prop} (hs : s.AgreeBut E) (c : Channel) (hF : ∀ d, d ≠ c → ¬ F d → ¬ E d)
    (hc : ¬ F c → Agrees (s.grantOf c) (s.channel c) 0) : (s.idleReached c).AgreeBut F := by
  have hrel : ∀ d, (s.idleReached c).releaseOf d = if d = c then 0 else s.releaseOf d :=
    fun d => State.releaseOf_setRelease _ c d 0
  refine hs.update c hF (fun d hd => ⟨rfl, rfl, by rw [hrel, if_neg hd]⟩) (fun h => ?_) fun hle => ?_
  · rw [hrel, if_pos rfl]; exact hc h
  · rw [hrel, if_pos rfl, State.idleReached_eq]; exact Nat.sub_add_cancel hle

/-- A slot whose record is no grant, before and after. -/
theorem State.AgreeBut.setSlot (hs : s.AgreeBut E) {i : Fin 24} {x : Slot} (hslots : t.slots = s.slots.set i x)
    (hold : ∀ d, s.grantOf d i = none) (hnew : ∀ d, x.grantOn i d = none) (hchannels : t.channels = s.channels)
    (hreleases : t.releases = s.releases) (hsum : t.budget.releasing = s.budget.releasing) : t.AgreeBut E :=
  hs.congr (fun d => State.grantOf_of_set_same hslots ((hnew d).trans (hold d).symm)) hchannels hreleases hsum

theorem State.grantOf_of_pending {i : Fin 24} {r : Claim} (hr : s.record i = some r) (hp : r.state = .pending) (d : Channel) :
    s.grantOf d i = none := by
  unfold State.grantOf Slot.grantOn
  rw [show (s.slot i).record = some r from hr]
  simp [hp]

theorem State.grantOf_of_free {i : Fin 24} (hi : s.record i = none) (d : Channel) : s.grantOf d i = none := by
  unfold State.grantOf Slot.grantOn
  rw [show (s.slot i).record = none from hi]
  rfl

/-- What the message to a loop changes depends on the loops, the release amounts and the releasing sum alone (R28). -/
theorem State.sendRelease_congr {u : State} (hc : u.channels = s.channels) (hr : u.releases = s.releases)
    (hb : u.budget.releasing = s.budget.releasing) (c : Channel) (a : Nat) :
    (u.sendRelease c a).channels = (s.sendRelease c a).channels ∧
      (u.sendRelease c a).releases = (s.sendRelease c a).releases ∧
      (u.sendRelease c a).budget.releasing = (s.sendRelease c a).budget.releasing := by
  have hch : u.channel c = s.channel c := by simp only [State.channel, hc]
  unfold State.sendRelease
  simp only [hch]
  split <;> simp [State.idleReached, State.addRelease, State.releaseOf, hc, hr, hb]

/-- A measurement that neither trips the channel nor ends its wind-down (R53). -/
theorem ChannelRecord.stateStep_inert (r : ChannelRecord) (m : Nat) (h : (r.stateStep m).2 ≠ .idleReached) :
    r.Inert (r.stateStep m).1 := by
  have halve : ∀ x : ChannelRecord, r.state.settling = true → x.holder = r.holder → x.target = r.target → r.Inert x.halve := by
    intro x hr hh ht
    unfold ChannelRecord.halve
    split
    · exact .of_settling hr rfl hh ht
    · exact .of_settling hr rfl hh ht
  have vote : ∀ d, r.state = .track → r.Inert (r.vote d).1 := by
    intro d hr
    have hset : r.state.settling = true := by rw [hr]; rfl
    unfold ChannelRecord.vote ChannelRecord.adjust
    split
    · cases d with
      | up =>
        simp only
        split
        · exact .of_settling hset rfl rfl rfl
        · rw [ChannelRecord.adapt_eq]; exact .of_state rfl rfl rfl
      | down =>
        simp only
        rw [ChannelRecord.adapt_eq]
        exact .of_state rfl rfl rfl
      | none => exact .of_state rfl rfl rfl
    · exact .of_state rfl rfl rfl
  unfold ChannelRecord.stateStep at h ⊢
  split at h
  · next hr =>
    have hset : r.state.settling = true := by rw [hr]; rfl
    unfold ChannelRecord.rampStep
    split
    · exact halve _ hset rfl rfl
    · split
      · exact .of_settling hset rfl rfl rfl
      · exact .of_state rfl rfl rfl
  · next hr =>
    have hset : r.state.settling = true := by rw [hr]; rfl
    unfold ChannelRecord.bisectStep
    split
    · exact halve _ hset rfl rfl
    · exact halve _ hset rfl rfl
  · next hr =>
    unfold ChannelRecord.trackStep
    split
    · exact vote _ hr
    · split
      · exact vote _ hr
      · split <;> exact .of_state rfl rfl rfl
  · next hr =>
    have hset : r.state.settling = true := by rw [hr]; rfl
    unfold ChannelRecord.limitedStep
    split
    · exact .of_settling hset rfl rfl rfl
    · exact .of_state rfl rfl rfl
  · next hr =>
    unfold ChannelRecord.windDownStep at h ⊢
    split at h
    · rw [if_pos ‹_›]; exact .of_state rfl rfl rfl
    · exact absurd rfl h
  all_goals exact .of_state rfl rfl rfl

/-- Only a wind-down's last step reports IDLE REACHED (R76). -/
theorem ChannelRecord.stateStep_idleReached {r : ChannelRecord} {m : Nat} (h : (r.stateStep m).2 = .idleReached) :
    r.state = .releasing ∧ (r.stateStep m).1 = r.toIdle := by
  have vote : ∀ d, (r.vote d).2 ≠ .idleReached := by
    intro d
    unfold ChannelRecord.vote ChannelRecord.adjust
    split
    · cases d with
      | up => simp only; split <;> simp
      | down | none => simp
    · simp
  unfold ChannelRecord.stateStep at h ⊢
  split at h
  · unfold ChannelRecord.rampStep at h; split at h <;> [cases h; (split at h <;> cases h)]
  · unfold ChannelRecord.bisectStep at h; split at h <;> cases h
  · unfold ChannelRecord.trackStep at h
    split at h
    · exact absurd h (vote _)
    · split at h
      · exact absurd h (vote _)
      · split at h <;> cases h
  · unfold ChannelRecord.limitedStep at h; split at h <;> cases h
  · next hr =>
    unfold ChannelRecord.windDownStep at h ⊢
    split at h
    · cases h
    · next hd => exact ⟨hr, by rw [if_neg hd]⟩
  all_goals cases h

/-- The record that a measurement's step works on. -/
theorem ChannelRecord.measure_cases (r : ChannelRecord) (m : Nat) (owner : Option Port) :
    (r.state.guarded = false ∧ r.measure m owner = ({ r with measured := m }, .none)) ∨
      (r.state.guarded = true ∧ r.measure m owner = (({ r with measured := m } : ChannelRecord).trip m owner, .tripped)) ∨
      r.measure m owner = ({ r with measured := m, strikes := strikesNow r m } : ChannelRecord).stateStep m := by
  cases hg : r.state.guarded with
  | false => exact .inl ⟨rfl, ChannelRecord.measure_of_not_guarded r m owner hg⟩
  | true =>
    by_cases hn : NoTrip r m
    · exact .inr (.inr (ChannelRecord.measure_of_noTrip r m owner hg hn))
    · simp only [not_or, not_le, not_lt] at hn
      exact .inr (.inl ⟨rfl, ChannelRecord.measure_of_trip r m owner hg hn.1 hn.2⟩)

theorem ChannelRecord.measure_inert (r : ChannelRecord) (m : Nat) (owner : Option Port) (ht : (r.measure m owner).2 ≠ .tripped)
    (hi : (r.measure m owner).2 ≠ .idleReached) : r.Inert (r.measure m owner).1 := by
  rcases r.measure_cases m owner with ⟨-, h⟩ | ⟨-, h⟩ | h <;> rw [h] at ht hi ⊢
  · exact .of_state rfl rfl rfl
  · exact absurd rfl ht
  · exact .trans (x := { r with measured := m, strikes := strikesNow r m }) (.of_state rfl rfl rfl)
      (ChannelRecord.stateStep_inert _ m hi)

theorem ChannelRecord.measure_idleReached {r : ChannelRecord} {m : Nat} {owner : Option Port}
    (h : (r.measure m owner).2 = .idleReached) : r.state = .releasing ∧ (r.measure m owner).1.state = .idle := by
  rcases r.measure_cases m owner with ⟨-, e⟩ | ⟨-, e⟩ | e <;> rw [e] at h ⊢
  · cases h
  · cases h
  · obtain ⟨hr, hx⟩ := ChannelRecord.stateStep_idleReached h
    exact ⟨hr, by rw [hx]; rfl⟩

theorem ChannelRecord.changeCeiling_inert (r : ChannelRecord) (ceiling : Nat) : r.Inert (r.changeCeiling ceiling) := by
  unfold ChannelRecord.changeCeiling
  simp only
  split
  · split
    · next h => exact .of_settling h rfl rfl rfl
    · exact .of_state rfl rfl rfl
  · split
    · next h =>
      split
      · exact .of_settling (by rw [h]; rfl) rfl rfl rfl
      · exact .of_state rfl rfl rfl
    · next h =>
      split
      · exact .of_settling (by rw [h]; rfl) rfl rfl rfl
      · exact .of_state rfl rfl rfl
    all_goals exact .of_state rfl rfl rfl

/-- A loop's own events keep the agreement (R49). -/
theorem ChannelMove.agrees (hL : ¬ L.trips) {c : Channel} {x : ChannelRecord} (h : ChannelMove L s c x)
    (hs : Agrees (s.grantOf c) (s.channel c) (s.releaseOf c)) : Agrees (s.grantOf c) x (s.releaseOf c) := by
  cases h with
  | measures m owner ht hi => exact hs.inert ((s.channel c).measure_inert m owner ht hi)
  | trips _ _ h => exact absurd h hL
  | clears _ ht =>
    rw [hs.amount (by rw [ht]; decide)]
    exact .of_rest (hs.none (by rw [ht]; rfl)) rfl (by simp [ChannelRecord.clearTrip, ChannelRecord.toIdle])
  | loops o => exact hs.inert (.of_state rfl rfl rfl)
  | limits o =>
    exact hs.inert (.trans (x := { s.channel c with config :=
        { (s.channel c).config with rating := o.rating, guard := o.guard, gain := o.gain } })
      (.of_state rfl rfl rfl) (ChannelRecord.changeCeiling_inert _ _))

theorem State.Agree.idles (hs : s.Agree) {c : Channel} {m : Nat} {owner : Option Port}
    (h : ((s.channel c).measure m owner).2 = .idleReached) :
    ((s.setChannel c ((s.channel c).measure m owner).1).idleReached c).Agree := by
  obtain ⟨hr, hx⟩ := ChannelRecord.measure_idleReached h
  have moved : (s.setChannel c ((s.channel c).measure m owner).1).AgreeBut (· = c) :=
    State.AgreeBut.update hs c (fun _ _ _ => id) (fun d hd => ⟨rfl, State.channel_setChannel_ne s _ hd, rfl⟩)
      (fun e => absurd rfl e) fun _ => rfl
  refine moved.idleReached c (fun d hd _ e => hd e) fun _ => ?_
  rw [State.channel_setChannel_self]
  exact .of_rest ((hs.on c id).none (LoopState.releasing_of_not hr)) (by rw [hx]; rfl) (by rw [hx]; decide)

theorem State.Agree.dropRecord (hs : s.Agree) {i : Fin 24} {r : Claim} (hr : s.record i = some r) : (s.dropRecord i).Agree := by
  unfold State.dropRecord
  simp only [hr]
  split
  · next hp =>
    exact hs.setSlot (i := i) (x := ⟨(s.slot i).gen + 1#8, none⟩) rfl (State.grantOf_of_pending hr hp) (fun _ => rfl) rfl rfl rfl
  · next hg =>
    obtain ⟨hc, hrel, hsum⟩ := State.sendRelease_congr (s := s) (u := (s.freeSlot i r).lowerGranted r.amount) rfl rfl rfl
      r.channel r.amount
    refine hs.endGrant hr hg (x := ⟨(s.slot i).gen + 1#8, none⟩) (fun _ => rfl) ?_ hc hrel hsum
    rw [State.sendRelease_frame]
    rfl

theorem State.Agree.shedRecord (hs : s.Agree) {i : Fin 24} {r : Claim} (hr : s.record i = some r) (hg : r.state = .granted) :
    (s.shedRecord i r).Agree := by
  obtain ⟨hc, hrel, hsum⟩ := State.sendRelease_congr (s := s)
    (u := (s.setSlot i ⟨(s.slot i).gen, some { r with state := .pending, shed := min 255 (r.shed + 1) }⟩).lowerGranted r.amount)
    rfl rfl rfl r.channel r.amount
  refine hs.endGrant hr hg (x := ⟨(s.slot i).gen, some { r with state := .pending, shed := min 255 (r.shed + 1) }⟩)
    (fun _ => Slot.grantOn_of_pending rfl i _) ?_ ?_ ?_ ?_
  · rw [State.shedRecord_frame]
  · refine Eq.trans ?_ hc; unfold State.shedRecord; rw [State.notify_eq]
  · refine Eq.trans ?_ hrel; unfold State.shedRecord; rw [State.notify_eq]
  · refine Eq.trans ?_ hsum; unfold State.shedRecord; rw [State.notify_eq]

theorem State.restart_agree (s : State) : s.restartClaims.restartChannels.Agree := by
  have hrec : ∀ i, s.restartClaims.restartChannels.record i = none := by
    intro i
    dsimp only [State.restartChannels, State.restartClaims, State.record, State.slot]
    rw [show (Vector.ofFn fun i => (s.slots[i]).restart)[i] = (s.slots[i]).restart from Vector.getElem_ofFn _]
    exact Slot.restart_record _
  have hrel : ∀ d, s.restartClaims.restartChannels.releaseOf d = 0 := by
    intro d
    dsimp only [State.restartChannels, State.restartClaims, State.releaseOf]
    exact Vector.getElem_replicate _
  refine ⟨fun d _ => ?_, ?_⟩
  · rw [hrel, State.restartChannels_channel]
    exact .of_rest (fun j => State.grantOf_of_free (hrec j) d) rfl (by simp [ChannelRecord.restart, ChannelRecord.toIdle,
      ChannelRecord.freshSettle])
  · rw [State.releaseTotal, funext hrel]
    dsimp only [State.restartChannels, State.restartClaims]
    simp

theorem Move.keeps_agree (hL : ¬ L.trips) (hs : s.Agree) (h : Move L s t) : t.Agree := by
  cases h with
  | wire | scan | trip | session | take | empty => exact hs.congr (State.grantOf_congr rfl) rfl rfl rfl
  | notice p n => rw [State.notify_eq]; exact hs.congr (State.grantOf_congr rfl) rfl rfl rfl
  | budget b _ _ hr => exact hs.congr (State.grantOf_congr rfl) rfl rfl hr
  | hold before after c => exact hs.formHold before after c
  | channel c x h => exact hs.setChannel fun _ => h.agrees hL
  | idle c m owner h => exact hs.idles h
  | unowned _ h | frees _ _ h => exact absurd h hL
  | make p o i _ hi =>
    exact hs.setSlot (i := i) (x := ⟨(s.slot i).gen, some ⟨p, o.channel, o.amount, o.cls, s.stamp, .pending, 0⟩⟩) rfl
      (State.grantOf_of_free hi) (fun _ => Slot.grantOn_of_pending rfl i _) rfl rfl rfl
  | grant i r hr hp he => exact hs.grantSlot hr hp he
  | drop i r hr => exact hs.dropRecord hr
  | shed i r hr hg => exact hs.shedRecord hr hg
  | amount i r a hr hp =>
    exact hs.setSlot (i := i) (x := ⟨(s.slot i).gen, some { r with amount := a }⟩) rfl (State.grantOf_of_pending hr hp)
      (fun _ => Slot.grantOn_of_pending (r := { r with amount := a }) hp i _) rfl rfl rfl
  | lower i r a hr hg | raise i r a hr hg => exact hs.adjust hr hg rfl rfl rfl rfl
  | restart => exact s.restart_agree

theorem Moves.keeps_agree (hL : ¬ L.trips) (h : Moves L s t) (hs : s.Agree) : t.Agree :=
  h.keeps (P := State.Agree) (fun _ _ => Move.keeps_agree hL) hs

/-! ### A trip (R37, R38, R79, R81) -/

/-- A trip has been taken by the loop, and not by the allocator: the channel's grants and its release amount are still as
they were. -/
structure State.Tripping (s : State) (c : Channel) (g : Fin 24 → Option (Handle × Nat)) (n : Nat) : Prop where
  but : s.AgreeBut (· = c)
  state : (s.channel c).state = .tripped
  grants : s.grantOf c = g
  release : s.releaseOf c = n

section Tripping
variable {c : Channel} {g : Fin 24 → Option (Handle × Nat)} {n : Nat}

theorem State.Tripping.congr (hs : s.Tripping c g n) (hslots : t.slots = s.slots) (hchannels : t.channels = s.channels)
    (hreleases : t.releases = s.releases) (hsum : t.budget.releasing = s.budget.releasing) : t.Tripping c g n where
  but := hs.but.congr (State.grantOf_congr hslots) hchannels hreleases hsum
  state := by simpa only [State.channel, hchannels] using hs.state
  grants := (State.grantOf_congr hslots c).trans hs.grants
  release := by simpa only [State.releaseOf, hreleases] using hs.release

theorem State.Tripping.formHold (hs : s.Tripping c g n) (before after : Vector Group 4) (d : Channel) :
    (s.formHold before after d).Tripping c g n where
  but := hs.but.formHold before after d
  state := by
    rw [State.formHold_channel]
    split
    · next e => rw [ChannelRecord.withHold_tripped, ← e]; exact hs.state
    · exact hs.state
  grants := (State.grantOf_congr (s.formHold_frame before after d).1 c).trans hs.grants
  release := by
    rw [State.formHold_releaseOf, if_neg]
    · exact hs.release
    · rintro ⟨rfl, -, -, h⟩
      rw [hs.state] at h
      cases h

theorem State.Tripping.grantSlot (hs : s.Tripping c g n) {i : Fin 24} {r : Claim} (hr : s.record i = some r)
    (hp : r.state = .pending) (he : s.eligible r = true) : (s.grantSlot i r).Tripping c g n := by
  have hne : c ≠ r.channel := by
    rintro rfl
    exact absurd (hs.state.symm.trans (State.eligible_idle he).1) (by decide)
  refine ⟨hs.but.grantSlot hr hp he, ?_, ?_, ?_⟩ <;> rw [State.grantSlot_eq]
  · rw [State.channel]
    exact (congrArg ChannelRecord.state (State.channel_setChannel_ne s _ hne)).trans hs.state
  · refine (State.grantOf_of_set_same (s := s) (i := i) rfl ?_).trans hs.grants
    rw [State.grantOf_of_pending hr hp]
    exact Slot.grantOn_of_ne fun q hq => by cases hq; exact Ne.symm hne
  · exact hs.release

theorem State.Tripping.allocationPass (hs : s.Tripping c g n) : s.allocationPass.Tripping c g n :=
  State.allocationPass_induction (P := fun u => u.Tripping c g n) (fun _ _ _ h hr hp he _ => h.grantSlot hr hp he) s hs

theorem State.Tripping.putGroups (hs : s.Tripping c g n) (after : Vector Group 4) : (s.putGroups after).Tripping c g n := by
  have hset : (s.setTrip { s.trip with groups := after, fault := faultFormed after }).Tripping c g n := hs.congr rfl rfl rfl rfl
  have forms : ∀ (l : List Channel) (u : State), u.Tripping c g n → (u.formHolds s.trip.groups after l).Tripping c g n := by
    intro l
    induction l with
    | nil => exact fun u hu => hu
    | cons d l ih => exact fun u hu => ih _ (hu.formHold _ _ d)
  rw [State.putGroups_eq]
  exact forms _ _ hset

theorem State.Tripping.followTripany (hs : s.Tripping c g n) : s.followTripany.Tripping c g n := by
  have recorded : ∀ v, (s.recordInput .tripany v).Tripping c g n := fun _ => hs.congr rfl rfl rfl rfl
  unfold State.followTripany State.inputEvent State.tripAction
  split
  · exact hs
  · dsimp only
    split
    · exact ((recorded _).putGroups _).allocationPass
    · exact (recorded _).putGroups _

/-- The allocator's taking of the report ends what the trip left open (R37, R38). -/
theorem State.Tripping.reportTrip {b : ChannelRecord} (hs : s.Tripping c g n) (hb : Agrees g b n)
    (slot : ∀ j h a, g j = some (h, a) → h.slot = j) (hg : b.state.guarded = true) (m : Nat) :
    (s.reportTrip b c m).Agree := by
  have rest : ∀ {g' : Fin 24 → Option (Handle × Nat)}, (∀ j, g' j = none) → Agrees g' (s.channel c) 0 := fun h =>
    .of_rest h (by rw [hs.state]; rfl) (by rw [hs.state]; decide)
  unfold State.reportTrip
  split
  · next hr =>
    refine (Moves.allocationPass (L := .quiet)).keeps_agree id (hs.but.idleReached c (fun d hd _ e => hd e) fun _ => ?_)
    rw [hs.grants]
    exact rest (hb.none (by rw [hr]; rfl))
  · next hr =>
    have hgranted : b.state.grantedState = true := by
      cases hst : b.state <;> simp_all [LoopState.guarded, LoopState.grantedState]
    obtain ⟨i, ⟨h, a⟩, hi⟩ := hb.named hgranted
    obtain ⟨-, hholder, -⟩ := hb.held i h a hi
    obtain ⟨r, hrec, hrg, hrc, e⟩ := State.grantOf_eq_some.mp ((congrFun hs.grants i).trans hi)
    cases e
    have hres : s.resolve (s.handleAt i) = some r := by rw [State.resolve_handleAt]; exact hrec
    rw [hholder]
    simp only
    unfold State.tripReport
    rw [hres]
    simp only [hrg, if_true, State.handleAt_slot]
    refine (Moves.allocationPass (L := .quiet)).keeps_agree id ?_
    rw [State.notify_eq]
    have hn : n = 0 := hb.amount hr
    have hslots : (s.freeSlot i r).slots = s.slots.set i ⟨(s.slot i).gen + 1#8, none⟩ := rfl
    refine State.AgreeBut.update hs.but c (fun d hd _ e => hd e) (fun d hd => ⟨?_, rfl, rfl⟩) (fun _ => ?_) fun _ => rfl
    · refine State.grantOf_of_set_same (s := s) (i := i) hslots ((Slot.grantOn_of_none _ i d).trans ?_)
      refine (Slot.grantOn_of_ne fun q hq => ?_).symm
      cases hrec.symm.trans hq
      rw [hrc]
      exact Ne.symm hd
    · change Agrees ((s.freeSlot i r).grantOf c) (s.channel c) (s.releaseOf c)
      rw [State.grantOf_of_set (s := s) (i := i) hslots, Slot.grantOn_of_none, hs.grants, hs.release, hn]
      exact rest (hb.freed slot hi)

end Tripping

theorem Allowed.noTrips_followTripany {u : State} (hu : u.Agree) : u.followTripany.Agree :=
  (Moves.followTripany (L := ⟨True, True, False, True, True⟩) trivial).keeps_agree id hu

/-- A trip's two consequences, in either order (R81). -/
theorem State.Tripping.afterTrip {b : ChannelRecord} {c : Channel} {g : Fin 24 → Option (Handle × Nat)} {n : Nat}
    (hs : s.Tripping c g n) (hb : Agrees g b n) (slot : ∀ j h a, g j = some (h, a) → h.slot = j)
    (hg : b.state.guarded = true) (m : Nat) : (s.afterTrip b c m).Agree := by
  unfold State.afterTrip
  split
  · have counted : State.Tripping { s with choice := s.choice + 1 } c g n := hs.congr rfl rfl rfl rfl
    simp only
    split
    · exact counted.followTripany.reportTrip hb slot hg m
    · exact Allowed.noTrips_followTripany (counted.reportTrip hb slot hg m)
  · exact Allowed.noTrips_followTripany (hs.reportTrip hb slot hg m)

theorem State.Agree.measurement (hs : s.Agree) (c : Channel) (m : Nat) : (s.measurement c m).Agree := by
  by_cases ht : ((s.channel c).measure m (s.holderPort c)).2 = .tripped
  · have hg : (s.channel c).state.guarded = true := by
      cases hg : (s.channel c).state.guarded with
      | true => rfl
      | false => rw [ChannelRecord.measure_of_not_guarded _ _ _ hg] at ht; cases ht
    unfold State.measurement
    simp only [ht]
    refine State.Tripping.afterTrip (s := s.setChannel c ((s.channel c).measure m (s.holderPort c)).1) (g := s.grantOf c)
      (n := s.releaseOf c) ⟨?_, ?_, rfl, rfl⟩ (hs.on c id)
      (fun j h a => State.grantOf_slot) hg m
    · exact hs.update c (fun _ _ _ => id) (fun d hd => ⟨rfl, State.channel_setChannel_ne s _ hd, rfl⟩)
        (fun e => absurd rfl e) fun _ => rfl
    · rw [State.channel_setChannel_self]
      exact ((s.channel c).measure_tripped m _).mpr (.inr ht)
  · exact (Moves.measurement (L := ⟨True, True, False, True, True⟩) c m fun h => absurd h ht).keeps_agree id hs

theorem State.Agree.channelConversion (hs : s.Agree) (c : Channel) (code : Nat) : (s.channelConversion c code).Agree := by
  have window : (s.windowAdd c code).Agree := hs.congr (State.grantOf_congr rfl) rfl rfl rfl
  unfold State.channelConversion
  simp only
  split
  · exact window.measurement c _
  · exact window

end But

theorem State.initial_agree (s : State) (cause : ResetCause) : (s.initial cause).Agree := by
  have hrec : ∀ i, (s.initial cause).record i = none := fun i => by
    simp [State.initial, State.record, State.slot, State.reset, Slot.reset]
  have hrel : ∀ d, (s.initial cause).releaseOf d = 0 := fun d => by
    dsimp only [State.initial, State.reset, State.releaseOf]
    exact Vector.getElem_replicate _
  refine ⟨fun d _ => ?_, ?_⟩
  · rw [hrel, State.initial_channel]
    exact .of_rest (fun j => State.grantOf_of_free (hrec j) d) rfl (by simp [ChannelRecord.reset])
  · rw [State.releaseTotal, funext hrel]
    dsimp only [State.initial, State.reset, Budget.reset]
    simp

/-- Settles O10: a conversion's end by its two parts, and every other command by its moves. -/
theorem grantsAndLoopsStayInAgreement : Obligations.GrantsAndLoopsStayInAgreement := by
  intro s t h hst
  rw [State.agree_iff] at h ⊢
  refine step_keeps (P := State.Agree) (fun s q h => h.congr (State.grantOf_congr rfl) rfl rfl rfl)
    (exec_keeps State.initial_agree (fun s sup flt derate h => ?_) fun c s t hc h hst hm => ?_) s t h hst
  · rw [State.releaseReset_eq]
    exact h.congr (State.grantOf_congr rfl) rfl rfl rfl
  · by_cases htrips : ∃ ch input, c = .channelConversionEnd ch input
    · obtain ⟨ch, input, rfl⟩ := htrips
      have ht : (if s.resetHeld then s else s.channelConversion ch (convert input)) = t := Host.Outcome.next.inj hst
      rw [← ht]
      split
      · exact h
      · exact h.channelConversion ch _
    · exact hm.keeps_agree htrips h

/-- Settles O13: the state after reset is the one that a power-on reset leaves. -/
theorem invariantsHoldAtReset : Obligations.InvariantsHoldAtReset := by
  have h : State.reset.initial .powerOn = State.reset := by dsimp only [State.initial, State.reset]
  rw [Obligations.InvariantsHoldAtReset, ← h]
  exact ⟨.initial _ _, .initial _ _, .initial _ _, .initial _ _, (State.agree_iff _).mpr (State.initial_agree _ _), .initial _ _,
    .initial _ _, .initial _ _⟩

end Sys2Proof.Machine
end

section
/-! SUPPORT. The commands of a port's own lease, the settings of the scanner and the quotas, the notices' queue and the
modulators: each statement is one equation for each case of the owning block's answer. -/

namespace Sys2Proof.Machine

/-- The executor's step for a command of an OPEN session whose block refuses it. -/
theorem State.execute_own_refuses {α : Type} {decode : List Byte → Option α} {gate : Gate} {sup : Bool}
    {own : Port → α → State → State × Reply} {s : State} {p : Port} {c : Command} {opcode : Byte} {a : α} {st : Status}
    (h : Takes s p c) (ho : c.opcode = opcode) (hd : decode c.payload = some a)
    (hs : gate = .always ∨ (s.session p).state = .opened) (hn : sup = false ∨ (s.session p).supervisor = true)
    (he : own p a (s.takeFrom p) = (s.takeFrom p, .refuse st)) :
    s.execute opcode decode gate sup own = s.refused p c st :=
  State.execute_refused h ho ((State.carryOut_own (s := s.takeFrom p) hd hs hn).trans he)

/-- What does nothing while a reset is held, once it is released. -/
theorem next_of_released {s : State} (h : s.resetHeld = false) (t : State) :
    (Host.Outcome.next (if s.resetHeld then s else t) : Result) = .next t :=
  congrArg Host.Outcome.next (if_neg (by rw [h]; decide))

theorem noOperands_of_nil {l : List Byte} (h : l = []) : noOperands l = some () := by rw [h]; rfl

/-! ### Leases (R118 to R122) -/

theorem renewedPeriod_of_current {x : Session} {n : Nat} (h : x.next = some n ∨ x.next = none ∧ x.current = some n) :
    x.next.or x.current = some n := by
  rcases h with h | ⟨h, h'⟩
  · rw [h]; rfl
  · rw [h, h']; rfl

/-- Settles O27: OPEN's two answers at the session table, and SET LEASE's one. -/
theorem openStartsALeaseAndSetLeaseStoresThePreload : Obligations.OpenStartsALeaseAndSetLeaseStoresThePreload := by
  intro s p c n htaken hd
  refine ⟨fun ho hs => congrArg Host.Outcome.next ?opens, fun ho hs => congrArg Host.Outcome.next ?refused,
    fun ho hs => congrArg Host.Outcome.next ?stores⟩
  case opens =>
    refine State.execute_own (u := s.setSession p ((s.session p).openWith n)) (out := .done) htaken ho hd (.inl rfl) (.inl rfl)
      ?_ rfl
    exact if_neg fun h => hs ((State.isOpen_iff s p).mp h)
  case refused =>
    exact State.execute_own_refuses htaken ho hd (.inl rfl) (.inl rfl) (if_pos ((State.isOpen_iff s p).mpr hs))
  case stores =>
    exact State.execute_own (u := s.setSession p { s.session p with next := some n }) (out := .done) htaken ho hd (.inr hs)
      (.inl rfl) rfl rfl

/-- Settles O28: RENEW's answer at the session table, and check 3's refusal. -/
theorem renewRestartsTheLease : Obligations.RenewRestartsTheLease := by
  intro s p c htaken ho he
  have hd := noOperands_of_nil he
  refine ⟨fun n hs hn => congrArg Host.Outcome.next ?renews, fun hs => congrArg Host.Outcome.next ?lapsed⟩
  case renews =>
    have hor := renewedPeriod_of_current hn
    have hx : (s.session p).renewed =
        { s.session p with current := some n, next := none, remaining := n, warned := false } := by
      simp only [Session.renewed, Session.renewedPeriod, hor, Option.getD_some]
    have hb : byte2 (s.session p).renewedPeriod = field 2 n := by
      rw [byte2_eq_field, Session.renewedPeriod, hor]; rfl
    rw [← hx, ← hb]
    exact State.execute_own (u := s.setSession p (s.session p).renewed) (out := ⟨.ok, byte2 (s.session p).renewedPeriod⟩)
      htaken ho hd (.inr hs) (.inl rfl) rfl rfl
  case lapsed => exact State.execute_refused htaken ho (State.carryOut_lapsed (s := s.takeFrom p) hd hs)

/-- Settles O29: the tick's two cases above 0. -/
theorem leaseTickCountsDownAndWarns : Obligations.LeaseTickCountsDownAndWarns := by
  intro s p n hs hc hr
  have hopen : s.isOpen p = true := (State.isOpen_iff s p).mpr hs
  have hne : (s.session p).remaining - 1 ≠ 0 := by omega
  have htick : exec (.leaseTick p) s = .next (s.tick p) := congrArg Host.Outcome.next (if_pos hopen)
  have hpoint : (s.session p).warningPoint = n / 2 := by rw [Session.warningPoint, hc]; rfl
  rw [htick, State.tick_eq, if_neg hne, hpoint]
  refine ⟨fun hquiet => ?quiet, fun hhalf hw => ?warns⟩
  case quiet =>
    rw [if_neg fun ⟨hhalf, _, hclear⟩ => hquiet.elim (fun h => h hhalf) fun h => by simp [hclear] at h]
    rfl
  case warns =>
    rw [if_pos ⟨hhalf, by omega, hw⟩, hhalf, State.leaseWarning, State.notify_of_open _ _ _ (by simpa using hs)]
    simp only [State.session_setSession_self, State.setSession_setSession]
    rfl

/-! ### Settings of the scanner and the quotas (R87, R88, R95, R130) -/

/-- Settles O56: the blocks' answers, which are their new values. -/
theorem scanRailAndQuotaSettingsAreStored : Obligations.ScanRailAndQuotaSettingsAreStored := by
  intro s
  refine ⟨fun hheld => ?cycle, fun p c => ⟨fun h n hd => ?scan, fun h n g hd => ?rail, fun h o hd => ?quota⟩⟩
  case cycle => exact next_of_released hheld (s.setScan s.scan.startCycle)
  all_goals refine congrArg Host.Outcome.next (State.execute_own_of_onto h.toTakenOpen hd (.inr h.supervisor) fun _ _ => rfl)

/-! ### Notices (R133 to R136, R138, R165) -/

theorem Kind.mask_eq (k : Kind) : k.mask = 1#16 <<< kindNumber k := by cases k <;> rfl

/-- Settles O41: a notice for an OPEN session, by the room in its queue. -/
theorem noticeJoinsItsQueueOrIsLost : Obligations.NoticeJoinsItsQueueOrIsLost := by
  intro s p n
  refine ⟨State.notify_of_not_open s p n, fun hs hroom => ?_, fun hs hfull => ?_⟩
  · rw [State.notify_of_open s p n hs, NoticeQueue.put_of_lt _ n hroom]; rfl
  · have hcount : min 255 ((s.noticesOf p).lostCount + 1) =
        if (s.noticesOf p).lostCount < 255 then (s.noticesOf p).lostCount + 1 else 255 := by
      split <;> omega
    rw [State.notify_of_open s p n hs, NoticeQueue.put_of_le _ n hfull, hcount, Kind.mask_eq]; rfl

/-! ### The modulators (R171, R172) -/

/-- Settles O59: the two starts are the model's, and a released reset leaves the pin to its modulator. -/
theorem modulatorsTakeFrameAndSlotStarts : Obligations.ModulatorsTakeFrameAndSlotStarts := by
  intro s hheld
  refine ⟨?frame, ?slot, fun c clock => ?pin⟩
  case frame => exact next_of_released hheld s.startFrame
  case slot =>
    have hstart : ∀ x : Modulator, x.startSlot =
        if x.acc + x.level % 64 < 64 then { x with acc := x.acc + x.level % 64, high := x.level / 64 }
        else { x with acc := x.acc + x.level % 64 - 64, high := x.level / 64 + 1 } := by
      intro x
      split
      · next h => exact Modulator.startSlot_plain (not_le.mpr h)
      · next h => exact Modulator.startSlot_extended (not_lt.mp h)
    refine (next_of_released hheld s.startSlot).trans (congrArg Host.Outcome.next ?_)
    rw [State.startSlot]
    simp only [hstart]
  case pin => rw [State.drvPin, hheld]; rfl

end Sys2Proof.Machine
end

section
/-! SUPPORT. The commands that read: STATUS, the three queries and TAKE NOTICE. The bytes of each answer are those of its
table, and nothing but a taken notice changes. -/

namespace Sys2Proof.Machine

/-! ### Fields -/

theorem optional1_eq_field (x : Option Nat) : optional1 x = field 1 (x.getD 0xFF) := by
  cases x with
  | none => rfl
  | some n => exact byte1_eq_field n

theorem optional2_eq_field (x : Option Nat) : optional2 x = field 2 (x.getD 0xFFFF) := by
  cases x with
  | none => rfl
  | some n => exact byte2_eq_field n

theorem signed2_eq_field (n : Int) : signed2 n = field 2 (n % 65536).toNat := byte2_eq_field _

theorem bit_eq_flagNumber : bit = flagNumber := funext bit_eq

theorem portCode_eq_portNumber : portCode = portNumber := funext portCode_eq

theorem ChannelRecord.recordPayload_eq (r : ChannelRecord) (c : Channel) :
    r.recordPayload c =
      field 1 c.val ++ field 1 (loopNumber r.state) ++ field 2 r.drive ++ field 2 r.target ++ handleBytesOr r.holder
        ++ field 1 (flagNumber r.hold) ++ field 1 (directionNumber r.voteDir) ++ field 1 r.voteCount ++ field 1 r.confirm
        ++ field 1 r.run ++ field 1 r.strikes ++ field 1 (flagNumber r.settled) ++ field 2 r.measured
        ++ field 1 ((r.tripOwner.map portNumber).getD 0xFF) ++ field 2 r.tripValue := by
  simp only [ChannelRecord.recordPayload, byte1_eq_field, byte2_eq_field, optional1_eq_field, optional2_handle,
    LoopState.code_eq, Direction.code_eq, bit_eq, portCode_eq_portNumber]

theorem ChannelConfig.payload_eq (g : ChannelConfig) (c : Channel) :
    g.payload c =
      field 1 c.val ++ field 1 (flagNumber g.enable) ++ field 2 g.start ++ field 2 g.rampStep ++ field 2 g.downStep
        ++ field 1 g.deadband ++ field 1 g.averaging ++ field 2 g.rating ++ field 2 g.ceiling ++ field 2 g.guard
        ++ field 2 g.gain := by
  simp only [ChannelConfig.payload, byte1_eq_field, byte2_eq_field, bit_eq]

theorem State.budgetPayload_eq (s : State) :
    s.budgetPayload =
      field 2 s.budget.normal ++ field 2 s.budget.derated ++ field 1 (flagNumber s.budget.derateOn)
        ++ field 2 s.budget.effective ++ field 2 s.budget.granted ++ field 2 s.budget.releasing
        ++ field 2 (((s.budget.effective : Int) - s.budget.granted - s.budget.releasing) % 65536).toNat := by
  simp only [State.budgetPayload, byte1_eq_field, byte2_eq_field, signed2_eq_field, bit_eq]
  rfl

/-- The port found as the supervisor, where one has the flag (R116). -/
theorem State.supervisorPort_of_unique {s : State} {sup : Port} (h : ∀ q, (s.session q).supervisor = decide (q = sup)) :
    s.supervisorPort = some sup := by
  unfold State.supervisorPort
  simp only [h]
  cases sup <;> rfl

theorem State.statusPayload_eq {s : State} {sup : Port} (h : ∀ q, (s.session q).supervisor = decide (q = sup)) (p : Port) :
    s.statusPayload p =
      field 1 (causeNumber s.cause) ++ field 1 (portNumber sup) ++ field 2 s.scan.counter.toNat
        ++ field 1 (flagNumber s.scan.railFlag) ++ field 2 s.scan.railValue
        ++ (((List.finRange 4).map fun g => field 1 (groupNumber (s.group g).state)).flatten)
        ++ field 1 (flagNumber s.trip.fault) ++ field 1 (sessionNumber (s.session p).state)
        ++ field 2 (s.session p).remaining := by
  have hgroups : ((List.finRange 4).map fun g => field 1 (groupNumber (s.group g).state)).flatten =
      field 1 (groupNumber (s.group 0).state) ++ field 1 (groupNumber (s.group 1).state)
        ++ field 1 (groupNumber (s.group 2).state) ++ field 1 (groupNumber (s.group 3).state) := rfl
  rw [hgroups, State.statusPayload, State.supervisorPort_of_unique h]
  simp only [byte1_eq_field, byte2_eq_field, optional1_eq_field, ResetCause.code_eq, GroupState.code_eq, SessionState.code_eq,
    bit_eq, portCode_eq, Option.map_some, Option.getD_some, List.append_assoc]

/-- The record's place in the wait queue: one more than the PENDING records ahead of it (R161). -/
theorem State.position_eq (s : State) (r : Claim) :
    s.position r = 1 + ((List.finRange 24).filter fun i => (s.record i).any fun q =>
      decide (q.state = .pending ∧ (q.cls < r.cls ∨ (q.cls = r.cls ∧ q.stamp < r.stamp)))).length := by
  rw [State.position, Nat.add_comm, allSlots]
  congr 2
  refine congrArg (List.filter · _) (funext fun i => ?_)
  cases s.record i <;> rfl

theorem State.claimPayload_eq (s : State) (h : Handle) (r : Claim) :
    s.claimPayload h r =
      handleBytes h ++ field 1 (portNumber r.port) ++ field 1 r.channel.val ++ field 2 r.amount
        ++ field 1 r.cls.val ++ field 4 r.stamp ++ field 1 (if r.state = .granted then 1 else 0) ++ field 1 r.shed
        ++ field 1 (if r.state = .granted then 0
            else 1 + ((List.finRange 24).filter fun i => (s.record i).any fun q =>
              decide (q.state = .pending ∧ (q.cls < r.cls ∨ (q.cls = r.cls ∧ q.stamp < r.stamp)))).length) := by
  rw [← State.position_eq]
  simp only [State.claimPayload, byte2_handle_code, portCode_eq]
  simp only [byte1_eq_field, byte2_eq_field, byte4_eq_field]
  cases r.state <;> rfl

/-- QUERY CLAIM of a live handle by its owner or the supervisor (R3, R161). -/
theorem queryClaimOwn_of_live {s : State} {p : Port} {h : Handle} {r : Claim} (hres : s.resolve h = some r)
    (howner : r.port = p ∨ (s.session p).supervisor = true) : queryClaimOwn p h s = (s, ⟨.ok, s.claimPayload h r⟩) := by
  unfold queryClaimOwn
  rw [hres]
  exact if_neg fun ⟨hp, hsup⟩ => howner.elim hp fun h => by rw [hsup] at h; cases h

/-- Settles O32: each query's block answers the bytes of its table and the state as it is. -/
theorem queriesReportAndChangeNothing : Obligations.QueriesReportAndChangeNothing := by
  intro s p c
  refine ⟨fun h ho he sup hsup => congrArg Host.Outcome.next ?status, fun h he => congrArg Host.Outcome.next ?budget,
    fun h a r hd hgen hrec howner => congrArg Host.Outcome.next ?claim, fun h ch hd => congrArg Host.Outcome.next ?channel,
    fun h ch hd => congrArg Host.Outcome.next ?config⟩
  case status =>
    rw [← State.statusPayload_eq hsup]
    exact State.execute_own (out := ⟨.ok, s.statusPayload p⟩) h ho (noOperands_of_nil he) (.inl rfl) (.inl rfl) rfl rfl
  case budget =>
    rw [← State.budgetPayload_eq]
    exact State.execute_own_of_onto h (noOperands_of_nil he) (.inl rfl) fun _ _ => rfl
  case claim =>
    rw [← State.claimPayload_eq]
    refine State.execute_own (out := ⟨.ok, s.claimPayload a r⟩) h.taken h.opcode hd (.inr h.opened) (.inl rfl) ?_ rfl
    have hres : s.resolve a = some r := State.resolve_eq_some.mpr ⟨hgen, hrec⟩
    exact queryClaimOwn_of_live (s := s.onto (s.takeFrom p)) hres howner
  case channel =>
    rw [← ChannelRecord.recordPayload_eq]
    exact State.execute_own_of_onto h hd (.inl rfl) fun _ _ => rfl
  case config =>
    rw [← ChannelConfig.payload_eq]
    exact State.execute_own_of_onto h hd (.inl rfl) fun _ _ => rfl

/-! ### TAKE NOTICE (R136, R138, R165) -/

theorem Notice.payload_eq (n : Notice) (remaining : Nat) :
    n.payload remaining =
      field 1 (kindNumber n.kind) ++ field 2 n.stamp.toNat ++ field 1 ((n.channel.map Fin.val).getD 0xFF)
        ++ handleBytesOr n.handle ++ field 2 (n.value.getD 0xFFFF) ++ field 1 ((n.derate.map flagNumber).getD 0xFF)
        ++ field 2 n.kindsLost.toNat ++ field 1 n.lostCount ++ field 1 remaining := by
  simp only [Notice.payload, Kind.code_eq, optional2_handle, optional1_eq_field, bit_eq_flagNumber]
  simp only [byte1_eq_field, byte2_eq_field, optional2_eq_field]

/-- TAKE NOTICE of a queue that holds a record. -/
theorem takeNoticeOwn_of_cons {s : State} {p : Port} {n : Notice} {rest : List Notice}
    (h : (s.noticesOf p).queue = n :: rest) :
    takeNoticeOwn p () s =
      (s.setNotices p (s.afterTake (s.noticesOf p) rest),
        ⟨.ok, n.payload (s.afterTake (s.noticesOf p) rest).queue.length⟩) := by
  unfold takeNoticeOwn
  rw [h]

/-- The executor's step for a TAKE NOTICE of a queue that holds a record, `q` being what is left. -/
theorem exec_takeNotice {s : State} {p : Port} {c : Command} {n : Notice} {rest : List Notice} {q : NoticeQueue}
    (h : TakenOpen s p c 0x31#8) (he : c.payload = []) (hq : (s.noticesOf p).queue = n :: rest)
    (hafter : s.afterTake (s.noticesOf p) rest = q) :
    exec .takeNotice s = .next ((s.setNotices p q).answered p c .ok (n.payload q.queue.length)) := by
  refine congrArg Host.Outcome.next (State.execute_own (u := s.setNotices p q) (out := ⟨.ok, n.payload q.queue.length⟩) h.taken
    h.opcode (noOperands_of_nil he) (.inr h.opened) (.inl rfl) ?_ rfl)
  rw [← hafter]
  exact takeNoticeOwn_of_cons (s := s.onto (s.takeFrom p)) hq

/-- Settles O42: the queue's three cases. -/
theorem takeNoticeReturnsTheOldest : Obligations.TakeNoticeReturnsTheOldest := by
  intro s p c h he q fields
  have hfields : ∀ n k, fields n ++ field 1 k = n.payload k := fun n k => (Notice.payload_eq n k).symm
  refine ⟨fun hq _ => congrArg Host.Outcome.next ?empty, fun n rest hq hl => ?plain, fun n rest hq hl => ?overflows⟩
  case empty =>
    refine State.execute_own_refuses h.taken h.opcode (noOperands_of_nil he) (.inr h.opened) (.inl rfl) ?_
    unfold takeNoticeOwn
    change (match q.queue with | [] => _ | n :: rest => _) = _
    rw [hq]
  case plain =>
    rw [hfields]
    refine exec_takeNotice (q := { q with queue := rest, attn := !rest.isEmpty }) h he hq ?_
    rw [State.afterTake, if_neg (by rw [show (s.noticesOf p).lostCount = 0 from hl]; decide)]
    have hlost : decide (0 < q.lostCount) = false := by rw [hl]; rfl
    change ({ q with queue := rest, attn := !rest.isEmpty || decide (0 < q.lostCount) } : NoticeQueue) = _
    rw [hlost, Bool.or_false]
  case overflows =>
    intro overflow filled
    have hlen : rest.length + 1 = filled.queue.length := by simp [filled]
    rw [hfields, hlen]
    refine exec_takeNotice h he hq ?_
    rw [State.afterTake, if_pos hl]
    have hne : (!(rest ++ [overflow]).isEmpty || decide (0 < 0)) = true := by simp
    change ({ queue := rest ++ [overflow], lostKinds := 0#16, lostCount := 0,
              attn := !(rest ++ [overflow]).isEmpty || decide (0 < 0) } : NoticeQueue) = filled
    rw [hne]

end Sys2Proof.Machine
end

section
/-! SUPPORT. The encodings: command frames and their commands, payloads and their operands, and the bits of the status
byte. -/

namespace Sys2Proof.Machine

/-! ### Frames (R144, R154) -/

/-- A run of bytes whose length and last byte are known is what stands before the last byte, and that byte. -/
theorem take_append_getLast {l : List Byte} {n : Nat} {b : Byte} (hlen : l.length = n + 1) (hlast : l.getLast? = some b) :
    l = l.take n ++ [b] := by
  obtain ⟨init, rfl⟩ := List.getLast?_eq_some_iff.mp hlast
  have hn : init.length = n := by simpa using hlen
  rw [← hn, List.take_left]

/-- The frame of a command of at most 12 payload bytes is judged good, and gives that command. -/
theorem judgeFrame_frame {c : Command} (h : c.payload.length ≤ 12) : judgeFrame c.frame = some c := by
  have hn : (BitVec.ofNat 8 c.payload.length).toNat = c.payload.length := by
    rw [BitVec.toNat_ofNat]; exact Nat.mod_eq_of_lt (by omega)
  rw [Command.frame_eq, judgeFrame, hn, List.take_left, if_pos]
  exact ⟨h, by simp, by simp⟩

/-- Settles O17: a good frame's bytes are put together again from its command. -/
theorem framesDecodeToTheirCommands : Obligations.FramesDecodeToTheirCommands := by
  intro frame c
  refine ⟨fun h => ?_, fun ⟨h, e⟩ => e ▸ judgeFrame_frame h⟩
  obtain ⟨o, t, n, rest, rfl, hn, hlen, hlast, rfl⟩ := judgeFrame_eq_some h
  have htake : (rest.take n.toNat).length = n.toNat := by rw [List.length_take, hlen]; omega
  refine ⟨by rw [htake]; exact hn, ?_⟩
  rw [Command.frame_eq]
  simp only [htake, BitVec.ofNat_toNat, BitVec.setWidth_eq]
  rw [← take_append_getLast hlen hlast]

/-! ### Fields of a payload, byte by byte (R155) -/

theorem byte_eq_ofNat {b : Byte} {n : Nat} (h : n < 256) : b = BitVec.ofNat 8 n ↔ b.toNat = n := by
  refine ⟨?_, ?_⟩
  · rintro rfl
    rw [BitVec.toNat_ofNat]; exact Nat.mod_eq_of_lt h
  · rintro rfl
    simp

theorem within_be16_eq_some {lo hi : Nat} {a b : Byte} {n : Nat} (h : hi < 65536) :
    within lo hi (be16 a b) = some n ↔ lo ≤ n ∧ n ≤ hi ∧ a = BitVec.ofNat 8 (n / 256) ∧ b = BitVec.ofNat 8 n := by
  rw [within_eq_some]
  constructor
  · rintro ⟨h1, h2, rfl⟩
    have hab := byte2_be16 a b
    simp only [byte2, List.cons.injEq, and_true] at hab
    exact ⟨h1, h2, hab.1.symm, hab.2.symm⟩
  · rintro ⟨h1, h2, rfl, rfl⟩
    have := be16_byte2 (n := n) (by omega)
    omega

theorem within_toNat_eq_some {lo hi : Nat} {b : Byte} {n : Nat} (h : hi < 256) :
    within lo hi b.toNat = some n ↔ lo ≤ n ∧ n ≤ hi ∧ b = BitVec.ofNat 8 n := by
  rw [within_eq_some]
  constructor
  · rintro ⟨h1, h2, rfl⟩
    exact ⟨h1, h2, by simp⟩
  · rintro ⟨h1, h2, e⟩
    have hn := (byte_eq_ofNat (by omega)).mp e
    omega

theorem channelField_iff {b : Byte} {c : Channel} : channelField b = some c ↔ b = BitVec.ofNat 8 c.val := by
  rw [channelField_eq_some, byte1, List.cons.injEq, and_iff_left rfl]

/-- A number from 0 to 3 in one byte: a group, a class or a class floor. -/
theorem classField_iff {b : Byte} {k : Fin 4} : classField b = some k ↔ b = BitVec.ofNat 8 k.val := by
  have hk := k.isLt
  rw [byte_eq_ofNat (by omega), classField]
  refine ⟨fun h => ?_, fun h => ?_⟩
  · split at h
    · cases h; rfl
    · cases h
  · rw [dif_pos (by omega)]
    exact congrArg some (Fin.ext h)

theorem groupField_iff {b : Byte} {g : Fin 4} : groupField b = some g ↔ b = BitVec.ofNat 8 g.val := classField_iff

theorem handleField_iff {a b : Byte} {h : Handle} : handleField a b = some h ↔ a = h.gen ∧ b = BitVec.ofNat 8 h.slot.val := by
  have hs := h.slot.isLt
  rw [byte_eq_ofNat (by omega), handleField]
  refine ⟨fun e => ?_, fun ⟨ha, hb⟩ => ?_⟩
  · split at e
    · cases e; exact ⟨rfl, rfl⟩
    · cases e
  · subst ha
    rw [dif_pos (by omega)]
    exact congrArg (fun i => some (⟨h.gen, i⟩ : Handle)) (Fin.ext hb)

theorem portField_iff {b : Byte} {p : Port} : portField b = some p ↔ b = BitVec.ofNat 8 (portNumber p) := by
  rw [portField_eq_some, portCode_eq, byte1, List.cons.injEq, and_iff_left rfl]

theorem flagField_iff {b : Byte} {v : Bool} : flagField b = some v ↔ b = BitVec.ofNat 8 (flagNumber v) := by
  rw [flagField_eq_some, bit_eq, byte1, List.cons.injEq, and_iff_left rfl]

/-- The byte of a polarity (R155). -/
def Polarity.byte : Polarity → Byte
  | .activeLow => 0x00#8
  | .activeHigh => 0x01#8

theorem polarityField_iff {b : Byte} {x : Polarity} : polarityField b = some x ↔ b = x.byte := by
  cases x <;> revert b <;> decide

/-- The number of a group mode (R155). -/
def GroupMode.number : GroupMode → Nat
  | .follow => 0
  | .latch => 1

theorem modeField_iff {b : Byte} {x : GroupMode} : modeField b = some x ↔ b = BitVec.ofNat 8 x.number := by
  cases x <;> revert b <;> decide

/-- A mask of the low `w` bits in two bytes. -/
theorem mask_eq_some {w hi : Nat} {a b : Byte} {x : BitVec w} (h : hi + 1 = 2 ^ w) (hw : hi < 65536) :
    (∃ n, within 0 hi (be16 a b) = some n ∧ BitVec.ofNat w n = x) ↔
      a = BitVec.ofNat 8 (x.toNat / 256) ∧ b = BitVec.ofNat 8 x.toNat := by
  have hx := x.isLt
  constructor
  · rintro ⟨n, hn, rfl⟩
    obtain ⟨-, hle, ha, hb⟩ := (within_be16_eq_some hw).mp hn
    rw [BitVec.toNat_ofNat, Nat.mod_eq_of_lt (by omega)]
    exact ⟨ha, hb⟩
  · rintro ⟨ha, hb⟩
    exact ⟨x.toNat, (within_be16_eq_some hw).mpr ⟨by omega, by omega, ha, hb⟩,
      BitVec.eq_of_toNat_eq (by rw [BitVec.toNat_ofNat]; exact Nat.mod_eq_of_lt hx)⟩

theorem averagingField_iff {b : Byte} {n : Nat} : averagingField b = some n ↔ n ∈ [1, 2, 4, 8] ∧ b = BitVec.ofNat 8 n := by
  constructor
  · have key : ∀ b : Byte, ∀ n ∈ averagingField b, n ∈ [1, 2, 4, 8] ∧ b = BitVec.ofNat 8 n := by decide
    exact fun h => key b n h
  · rintro ⟨h, rfl⟩
    revert n
    decide

/-! ### Payloads (R158 to R169) -/

theorem leaseOperand_eq_some {l : List Byte} {n : Nat} : leaseOperand l = some n ↔ 1 ≤ n ∧ n ≤ 1000 ∧ l = field 2 n := by
  unfold leaseOperand
  split
  · simp [field, within_be16_eq_some]
  · next h => exact ⟨nofun, fun ⟨_, _, e⟩ => (h _ _ e).elim⟩

theorem claimOperands_eq_some {l : List Byte} {o : ClaimOperands} :
    claimOperands l = some o ↔
      1 ≤ o.amount ∧ o.amount ≤ 1023 ∧ l = field 1 o.channel.val ++ field 2 o.amount ++ field 1 o.cls.val := by
  unfold claimOperands
  split
  · obtain ⟨ch, n, k⟩ := o
    simp [field, Option.bind_eq_some_iff, channelField_iff, within_be16_eq_some, classField_iff]
    tauto
  · next h => exact ⟨nofun, fun ⟨_, _, e⟩ => (h _ _ _ _ e).elim⟩

theorem noOperands_eq_some {l : List Byte} : noOperands l = some () ↔ l = [] := by
  cases l <;> simp [noOperands]

theorem adjustOperands_eq_some {l : List Byte} {o : AdjustOperands} :
    adjustOperands l = some o ↔ 1 ≤ o.amount ∧ o.amount ≤ 1023 ∧ l = handleBytes o.handle ++ field 2 o.amount := by
  unfold adjustOperands
  split
  · obtain ⟨h, n⟩ := o
    simp [field, handleBytes, Option.bind_eq_some_iff, handleField_iff, within_be16_eq_some]
    tauto
  · next h => exact ⟨nofun, fun ⟨_, _, e⟩ => (h _ _ _ _ e).elim⟩

theorem handleOperand_eq_some {l : List Byte} {h : Handle} : handleOperand l = some h ↔ l = handleBytes h := by
  unfold handleOperand
  split
  · simp [handleBytes, handleField_iff]
  · next h => exact ⟨nofun, fun e => (h _ _ e).elim⟩

theorem queryChannelOperands_eq_some {l : List Byte} {c : Channel} {b : Bool} :
    queryChannelOperands l = some (c, b) ↔ l = field 1 c.val ++ field 1 (flagNumber b) := by
  unfold queryChannelOperands
  split
  · simp [field, Option.bind_eq_some_iff, channelField_iff, flagField_iff]
  · next h => exact ⟨nofun, fun e => (h _ _ e).elim⟩

theorem channelOperand_eq_some {l : List Byte} {c : Channel} : channelOperand l = some c ↔ l = field 1 c.val := by
  unfold channelOperand
  split
  · simp [field, channelField_iff]
  · next h => exact ⟨nofun, fun e => (h _ e).elim⟩

theorem flagOperand_eq_some {l : List Byte} {b : Bool} : flagOperand l = some b ↔ l = field 1 (flagNumber b) := by
  unfold flagOperand
  split
  · simp [field, flagField_iff]
  · next h => exact ⟨nofun, fun e => (h _ e).elim⟩

theorem budgetOperands_eq_some {l : List Byte} {n d : Nat} :
    budgetOperands l = some (n, d) ↔ n ≤ 4095 ∧ d ≤ 4095 ∧ l = field 2 n ++ field 2 d := by
  unfold budgetOperands
  split
  · simp [field, Option.bind_eq_some_iff, within_be16_eq_some]
    tauto
  · next h => exact ⟨nofun, fun ⟨_, _, e⟩ => (h _ _ _ _ e).elim⟩

theorem scanOperand_eq_some {l : List Byte} {n : Nat} : scanOperand l = some n ↔ 1 ≤ n ∧ n ≤ 255 ∧ l = field 1 n := by
  unfold scanOperand
  split
  · simp [field, within_toNat_eq_some]
  · next h => exact ⟨nofun, fun ⟨_, _, e⟩ => (h _ e).elim⟩

theorem railOperands_eq_some {l : List Byte} {n g : Nat} :
    railOperands l = some (n, g) ↔ n ≤ 4095 ∧ g ≤ 4095 ∧ l = field 2 n ++ field 2 g := budgetOperands_eq_some

theorem loopOperands_eq_some {l : List Byte} {o : LoopOperands} :
    loopOperands l = some o ↔
      o.start ≤ 4095 ∧ 1 ≤ o.rampStep ∧ o.rampStep ≤ 1023 ∧ 1 ≤ o.downStep ∧ o.downStep ≤ 1023 ∧ o.deadband ≤ 63 ∧
        o.averaging ∈ [1, 2, 4, 8] ∧
        l = field 1 o.channel.val ++ field 1 (flagNumber o.enable) ++ field 2 o.start ++ field 2 o.rampStep
          ++ field 2 o.downStep ++ field 1 o.deadband ++ field 1 o.averaging := by
  unfold loopOperands
  split
  · obtain ⟨c, e, st, r, d, b, a⟩ := o
    simp [field, Option.bind_eq_some_iff, channelField_iff, flagField_iff, within_be16_eq_some, within_toNat_eq_some,
      averagingField_iff, -Bool.exists_bool]
    tauto
  · next h => exact ⟨nofun, fun ⟨_, _, _, _, _, _, _, e⟩ => (h _ _ _ _ _ _ _ _ _ _ e).elim⟩

theorem limitsOperands_eq_some {l : List Byte} {o : LimitsOperands} :
    limitsOperands l = some o ↔
      1 ≤ o.rating ∧ o.rating ≤ 1023 ∧ o.ceiling ≤ 4095 ∧ 1 ≤ o.guard ∧ o.guard ≤ 1023 ∧ o.gain ≤ 4095 ∧
        l = field 1 o.channel.val ++ field 2 o.rating ++ field 2 o.ceiling ++ field 2 o.guard ++ field 2 o.gain := by
  unfold limitsOperands
  split
  · obtain ⟨c, r, t, m, g⟩ := o
    simp [field, Option.bind_eq_some_iff, channelField_iff, within_be16_eq_some]
    tauto
  · next h => exact ⟨nofun, fun ⟨_, _, _, _, _, _, e⟩ => (h _ _ _ _ _ _ _ _ _ e).elim⟩

theorem groupOperands_eq_some {l : List Byte} {o : GroupOperands} :
    groupOperands l = some o ↔
      l = field 1 o.group.val ++ field 2 o.inputs.toNat ++ field 2 o.targets.toNat ++ field 1 o.mode.number := by
  unfold groupOperands
  split
  · next g i1 i2 t1 t2 m =>
    obtain ⟨k, x, y, mode⟩ := o
    have hx := mask_eq_some (a := i1) (b := i2) (x := x) (hi := 1023) (by decide) (by decide)
    have hy := mask_eq_some (a := t1) (b := t2) (x := y) (hi := 4095) (by decide) (by decide)
    have hsplit : [g, i1, i2, t1, t2, m] =
        field 1 k.val ++ field 2 x.toNat ++ field 2 y.toNat ++ field 1 mode.number ↔
          g = BitVec.ofNat 8 k.val ∧ (i1 = BitVec.ofNat 8 (x.toNat / 256) ∧ i2 = BitVec.ofNat 8 x.toNat) ∧
            (t1 = BitVec.ofNat 8 (y.toNat / 256) ∧ t2 = BitVec.ofNat 8 y.toNat) ∧ m = BitVec.ofNat 8 mode.number := by
      simp [field, and_assoc]
    rw [hsplit, ← hx, ← hy]
    simp only [Option.bind_eq_bind, Option.bind_eq_some_iff, groupField_iff, modeField_iff, Option.some.injEq,
      GroupOperands.mk.injEq]
    constructor
    · rintro ⟨_, hk, n, hn, n', hn', _, hm, rfl, e, e', rfl⟩
      exact ⟨hk, ⟨n, hn, e⟩, ⟨n', hn', e'⟩, hm⟩
    · rintro ⟨hk, ⟨n, hn, e⟩, ⟨n', hn', e'⟩, hm⟩
      exact ⟨_, hk, n, hn, n', hn', _, hm, rfl, e, e', rfl⟩
  · next h => exact ⟨nofun, fun e => (h _ _ _ _ _ _ e).elim⟩

theorem groupOperand_eq_some {l : List Byte} {g : Fin 4} : groupOperand l = some g ↔ l = field 1 g.val := by
  unfold groupOperand
  split
  · simp [field, groupField_iff]
  · next h => exact ⟨nofun, fun e => (h _ e).elim⟩

theorem pinOperands_eq_some {l : List Byte} {o : PinOperands} :
    pinOperands l = some o ↔ l = [o.flt[0], o.flt[1], o.flt[2], o.flt[3], o.derate].map Polarity.byte := by
  unfold pinOperands
  split
  · next f0 f1 f2 f3 d =>
    simp only [Option.bind_eq_bind, Option.bind_eq_some_iff, polarityField_iff, Option.some.injEq]
    constructor
    · rintro ⟨_, rfl, _, rfl, _, rfl, _, rfl, _, rfl, rfl⟩
      rfl
    · intro h
      simp only [List.map_cons, List.map_nil, List.cons.injEq, and_true] at h
      obtain ⟨h0, h1, h2, h3, hd⟩ := h
      refine ⟨_, h0, _, h1, _, h2, _, h3, _, hd, congrArg (PinOperands.mk · o.derate) (Vector.ext fun i hi => ?_)⟩
      match i, hi with
      | 0, _ => rfl
      | 1, _ => rfl
      | 2, _ => rfl
      | 3, _ => rfl
  · next h => exact ⟨nofun, fun e => (h _ _ _ _ _ e).elim⟩

theorem quotaOperands_eq_some {l : List Byte} {o : QuotaOperands} :
    quotaOperands l = some o ↔
      o.quota ≤ 24 ∧ l = field 1 (portNumber o.port) ++ field 1 o.quota ++ field 1 o.floor.val := by
  unfold quotaOperands
  split
  · obtain ⟨p, q, f⟩ := o
    simp [field, Option.bind_eq_some_iff, portField_iff, within_toNat_eq_some, classField_iff]
    tauto
  · next h => exact ⟨nofun, fun ⟨_, e⟩ => (h _ _ _ e).elim⟩

theorem portOperand_eq_some {l : List Byte} {p : Port} : portOperand l = some p ↔ l = field 1 (portNumber p) := by
  unfold portOperand
  split
  · simp [field, portField_iff]
  · next h => exact ⟨nofun, fun e => (h _ e).elim⟩

/-- Settles O18: each decoder by its own lemma. -/
theorem payloadsDecodeToTheirOperands : Obligations.PayloadsDecodeToTheirOperands := fun _ =>
  ⟨noOperands_eq_some, fun _ => leaseOperand_eq_some, fun _ => claimOperands_eq_some, fun _ => adjustOperands_eq_some,
    fun _ => handleOperand_eq_some, fun _ _ => queryChannelOperands_eq_some, fun _ => channelOperand_eq_some,
    fun _ => flagOperand_eq_some, fun _ _ => budgetOperands_eq_some, fun _ => scanOperand_eq_some,
    fun _ _ => railOperands_eq_some, fun _ => loopOperands_eq_some, fun _ => limitsOperands_eq_some,
    fun _ => groupOperands_eq_some, fun _ => groupOperand_eq_some, fun _ => pinOperands_eq_some,
    fun _ => quotaOperands_eq_some, fun _ => portOperand_eq_some⟩

/-! ### The status byte (R143, R154) -/

theorem NoticeQueue.waiting_iff (q : NoticeQueue) : q.waiting = true ↔ q.queue ≠ [] ∨ 0 < q.lostCount := by
  simp [NoticeQueue.waiting]

/-- The bits of six flags and a session state's number that are added up as a status byte. -/
theorem flagBits (r w c o v : Bool) (st : SessionState) :
    let b := BitVec.ofNat 8 (128 * bit r + 64 * bit w + 16 * st.code + 8 * bit c + 4 * bit o + 2 * bit v)
    b.getLsbD 7 = r ∧ b.getLsbD 6 = w ∧ b.getLsbD 5 = decide (st = .lapsed) ∧ b.getLsbD 4 = decide (st = .opened) ∧
      b.getLsbD 3 = c ∧ b.getLsbD 2 = o ∧ b.getLsbD 1 = v ∧ b.getLsbD 0 = false := by
  cases st <;> revert r w c o v <;> decide

/-- Settles O19: the bits one by one, and the frames as they are built. -/
theorem statusByteAndFramesAreLaidOut : Obligations.StatusByteAndFramesAreLaidOut := by
  refine ⟨fun s p => ?_, fun c => rfl, Response.frame_eq_concat_crc8⟩
  obtain ⟨h7, h6, h5, h4, h3, h2, h1, h0⟩ := flagBits (s.port p).response.isSome (s.noticesOf p).waiting (s.port p).collided
    (s.port p).overwritten (s.session p).supervisor (s.session p).state
  exact ⟨h7, (Bool.eq_iff_iff.mp h6).trans (NoticeQueue.waiting_iff _), h5, h4, h3, h2, h1, h0⟩

end Sys2Proof.Machine
end

section
/-! SUPPORT. Transactions: what the bytes of one do to the port, whatever its code, and what its end takes; the rows in
one stretch and in several follow. -/

namespace Sys2Proof.Machine

variable {s : State} {p : Port}

/-! ### Bytes (R142, R147, R148) -/

/-- The status byte is formed from the port's slot and flags (R143). -/
theorem statusByte_withPort {y : PortState} (hr : y.response = (s.port p).response) (hc : y.collided = (s.port p).collided)
    (ho : y.overwritten = (s.port p).overwritten) : (withPort s p y).statusByte p = s.statusByte p := by
  unfold State.statusByte
  rw [port_withPort, hr, hc, ho]
  rfl

/-- What a port shifts out during `n` more bytes of a transaction whose code byte is whole. -/
def State.bytesOut (s : State) (p : Port) (code : Byte) (reply : List Byte) (n : Nat) : List Byte :=
  if code = 0xF0#8 then thenZeros reply n
  else if code = 0x3C#8 then List.replicate n (s.statusByte p)
  else List.replicate n 0x00#8

theorem State.bytesOut_plain {code : Byte} (hf : code ≠ 0xF0#8) (hs : code ≠ 0x3C#8) (reply : List Byte) (n : Nat) :
    s.bytesOut p code reply n = List.replicate n 0x00#8 := by
  rw [State.bytesOut, if_neg hf, if_neg hs]

theorem State.bytesOut_fetch (reply : List Byte) (n : Nat) : s.bytesOut p 0xF0#8 reply n = thenZeros reply n := if_pos rfl

theorem State.bytesOut_status (reply : List Byte) (n : Nat) :
    s.bytesOut p 0x3C#8 reply n = List.replicate n (s.statusByte p) := rfl

theorem State.bytesOut_withPort {y : PortState} (hr : y.response = (s.port p).response)
    (hc : y.collided = (s.port p).collided) (ho : y.overwritten = (s.port p).overwritten) (code : Byte) (reply : List Byte)
    (n : Nat) : (withPort s p y).bytesOut p code reply n = s.bytesOut p code reply n := by
  unfold State.bytesOut
  rw [statusByte_withPort hr hc ho]

theorem State.bytesOut_succ (s : State) (p : Port) (x : Transaction) {code : Byte} {r : List Byte}
    (hx : x.received = code :: r) (n : Nat) :
    s.bytesOut p code x.reply (n + 1) = s.byteOut p x :: s.bytesOut p code (x.reply.drop 1) n := by
  unfold State.bytesOut State.byteOut
  rw [hx]
  simp only
  split
  · exact thenZeros_succ _ _
  · split <;> rfl

/-- Bytes after the first of a transaction. -/
theorem State.clockBytes_of_code {x : Transaction} {code : Byte} {r : List Byte} (h : (s.port p).transaction = some x)
    (hx : x.received = code :: r) (bytes : List Byte) :
    s.clockBytes p bytes =
      withPort s p
        { s.port p with
          transaction := some { x with received := x.received ++ bytes, reply := x.reply.drop bytes.length }
          dataOut := (s.port p).dataOut ++ s.bytesOut p code x.reply bytes.length } := by
  induction bytes generalizing s x r with
  | nil =>
    have hport : ({ s.port p with transaction := some x, dataOut := (s.port p).dataOut } : PortState) = s.port p := by
      rw [← h]
    unfold State.bytesOut
    simp only [State.clockBytes_nil, List.append_nil, List.length_nil, List.drop_zero, thenZeros_zero, List.replicate_zero,
      ite_self, hport, withPort_self]
  | cons b rest ih =>
    have hne : ¬ (x.received = [] ∧ b = 0xF0#8) := fun e => by rw [hx] at e; cases e.1
    rw [State.clockBytes_cons, State.clockByte_eq h b hne,
      ih (x := x.clocked b) (r := r ++ [b]) (by simp [PortState.clocked]) (by simp [Transaction.clocked, hx])]
    rw [State.bytesOut_withPort (y := (s.port p).clocked x (s.byteOut p x) b) rfl rfl rfl, List.length_cons, State.bytesOut_succ s p x hx]
    simp [PortState.clocked, Transaction.clocked]

/-- The first byte of a transaction that is no fetch. -/
theorem State.clockByte_first {shown b : Byte} (h : (s.port p).transaction = some ⟨shown, [], []⟩) (hb : b ≠ 0xF0#8) :
    s.clockByte p b =
      withPort s p
        { s.port p with transaction := some ⟨shown, [b], []⟩, dataOut := (s.port p).dataOut ++ [shown] } :=
  State.clockByte_eq h b fun e => hb e.2

/-- A fetch concerns the slot and the flags alone. -/
theorem PortState.afterFetch_with (y : PortState) (t : Option Transaction) (d : List Byte) (b : Byte) :
    ({ y with transaction := t, dataOut := d } : PortState).afterFetch b =
      { y.afterFetch b with transaction := t, dataOut := d } := by
  unfold PortState.afterFetch
  simp only
  split <;> rfl

theorem PortState.afterFetch_transaction (y : PortState) (b : Byte) : (y.afterFetch b).transaction = y.transaction := by
  unfold PortState.afterFetch
  split <;> rfl

/-- A command frame concerns the slots and the flags alone. -/
theorem PortState.afterFrame_with_dataOut (y : PortState) (d : List Byte) (frame : List Byte) :
    ({ y with dataOut := d } : PortState).afterFrame frame = { y.afterFrame frame with dataOut := d } := by
  unfold PortState.afterFrame
  simp only
  split
  · split <;> rfl
  · rfl

theorem PortState.afterFrame_with_transaction (y : PortState) (t : Option Transaction) (frame : List Byte) :
    ({ y with transaction := t } : PortState).afterFrame frame = { y.afterFrame frame with transaction := t } := by
  unfold PortState.afterFrame
  simp only
  split
  · split <;> rfl
  · rfl

/-- The first byte of a fetch. -/
theorem State.clockByte_first_fetch {shown : Byte} (h : (s.port p).transaction = some ⟨shown, [], []⟩) :
    s.clockByte p 0xF0#8 =
      withPort s p
        { (s.port p).afterFetch shown with
          transaction := some ⟨shown, [0xF0#8], (s.port p).fetchFrame⟩
          dataOut := (s.port p).dataOut ++ [shown] } := by
  rw [State.clockByte_fetch h rfl, PortState.fetched_eq, PortState.clocked, PortState.afterFetch_with]
  rfl

/-! ### Stretches (R142) -/

/-- The first whole byte of a transaction is the code of the row, or there is none, or it is none of the four codes. -/
def CarriedBy (code : Byte) (received : List Byte) : Prop := received.head? = some code ∨ codeless received

theorem rowCarries_of_carriedBy {code : Byte} {received : List Byte} (h : CarriedBy code received) :
    rowCarries code received.head? = true := by
  unfold rowCarries
  split
  · rfl
  · next b hb =>
    rcases h with h | h
    · cases hb.symm.trans h; simp
    · have hn : transactionCodes.contains b = false := by
        rw [List.contains_eq_mem]
        exact decide_eq_false fun hmem => h b hmem hb
      rw [hn]; simp

theorem State.receivedSoFar_of_none (h : (s.port p).transaction = none) : s.receivedSoFar p = [] := by
  unfold State.receivedSoFar; rw [h]

theorem State.receivedSoFar_of_some {x : Transaction} (h : (s.port p).transaction = some x) :
    s.receivedSoFar p = x.received := by
  unfold State.receivedSoFar; rw [h]

theorem State.stretch_eq_run (hl : Listens s p) {code : Byte} {part : Stretch} {bytes received : List Byte}
    (hr : s.receivedSoFar p = received) (hc : CarriedBy code (received ++ bytes)) :
    s.stretch p code part bytes = s.runStretch p part bytes := by
  have hcarries : s.carries p code bytes = true := by
    rw [State.carries, hr]; exact rowCarries_of_carriedBy hc
  rw [State.stretch, State.takesTransactions_of_listens hl, hcarries]
  rfl

/-- A stretch that begins a transaction and does not yet hold a byte. -/
theorem State.stretch_first_nil (hl : Listens s p) (h : (s.port p).transaction = none) (code : Byte) :
    s.stretch p code .first [] =
      withPort s p { s.port p with transaction := some ⟨s.statusByte p, [], []⟩, dataOut := [] } :=
  (State.stretch_eq_run hl (State.receivedSoFar_of_none h) (.inr (by simp [codeless]))).trans (State.select_of_none h)

/-- A stretch within a transaction is its bytes. -/
theorem State.stretch_inner (hl : Listens s p) {x : Transaction} (h : (s.port p).transaction = some x) {code : Byte}
    {bytes : List Byte} (hc : CarriedBy code (x.received ++ bytes)) :
    s.stretch p code .inner bytes = s.clockBytes p bytes :=
  State.stretch_eq_run hl (State.receivedSoFar_of_some h) hc

/-- A stretch that is the end of a transaction takes what it carried. -/
theorem State.stretch_last_nil (hl : Listens s p) {x : Transaction} (h : (s.port p).transaction = some x) {code : Byte}
    (hc : CarriedBy code x.received) :
    s.stretch p code .last [] = (withPort s p { s.port p with transaction := none }).takeReceived p x.received :=
  (State.stretch_eq_run hl (State.receivedSoFar_of_some h) (by rwa [List.append_nil])).trans (State.deselect_of_some h)

/-- The bytes of a transaction that is no fetch, from its first. -/
theorem State.clockBytes_of_first {shown code : Byte} (h : (s.port p).transaction = some ⟨shown, [], []⟩)
    (hf : code ≠ 0xF0#8) (more : List Byte) :
    s.clockBytes p (code :: more) =
      withPort s p
        { s.port p with
          transaction := some ⟨shown, code :: more, []⟩
          dataOut := (s.port p).dataOut ++ shown :: s.bytesOut p code [] more.length } := by
  rw [State.clockBytes_cons, State.clockByte_first h hf, State.clockBytes_of_code (by rw [port_withPort]) rfl, port_withPort,
    withPort_withPort, State.bytesOut_withPort (by rfl) (by rfl) (by rfl)]
  simp

/-- The bytes of a fetch, from its first. -/
theorem State.clockBytes_of_first_fetch {shown : Byte} (h : (s.port p).transaction = some ⟨shown, [], []⟩)
    (more : List Byte) :
    s.clockBytes p (0xF0#8 :: more) =
      withPort s p
        { (s.port p).afterFetch shown with
          transaction := some ⟨shown, 0xF0#8 :: more, (s.port p).fetchFrame.drop more.length⟩
          dataOut := (s.port p).dataOut ++ shown :: thenZeros (s.port p).fetchFrame more.length } := by
  rw [State.clockBytes_cons, State.clockByte_first_fetch h, State.clockBytes_of_code (by rw [port_withPort]) rfl, port_withPort,
    withPort_withPort, State.bytesOut_fetch]
  simp

/-! ### What the end of a transaction takes (R142, R144, R149) -/

theorem State.takeReceived_command (frame : List Byte) :
    s.takeReceived p (0xC5#8 :: frame) = withPort s p ((s.port p).afterFrame frame) := State.receiveFrame_eq s p frame

theorem State.takeReceived_portReset : s.takeReceived p [0xA9#8, 0x96#8] = s.resetPort p := rfl

theorem State.takeReceived_other {received : List Byte} (hc : received.head? ≠ some 0xC5#8)
    (hr : received ≠ [0xA9#8, 0x96#8]) : s.takeReceived p received = s := by
  unfold State.takeReceived
  split
  · rfl
  · rw [if_neg fun e => hc (by rw [e]; rfl), if_neg hr]

theorem codeless.ne_portReset {received : List Byte} (h : codeless received) : received ≠ [0xA9#8, 0x96#8] := by
  rintro rfl
  exact h 0xA9#8 (by simp) rfl

/-- A whole transaction that is no fetch. -/
theorem State.stretch_whole (hl : Listens s p) (h : (s.port p).transaction = none) {row code : Byte} {more : List Byte}
    (hc : CarriedBy row (code :: more)) (hf : code ≠ 0xF0#8) :
    s.stretch p row .whole (code :: more) =
      (withPort s p { s.port p with dataOut := s.statusByte p :: s.bytesOut p code [] more.length }).takeReceived p
        (code :: more) := by
  rw [State.stretch_eq_run hl (State.receivedSoFar_of_none h) hc]
  change ((s.select p).clockBytes p (code :: more)).deselect p = _
  rw [State.select_of_none h, State.clockBytes_of_first (by rw [port_withPort]) hf, port_withPort, withPort_withPort,
    State.deselect_of_some (by rw [port_withPort]), port_withPort, withPort_withPort,
    State.bytesOut_withPort (by rfl) (by rfl) (by rfl)]
  simp only [List.nil_append, ← h]

/-- A whole fetch. -/
theorem State.stretch_whole_fetch (hl : Listens s p) (h : (s.port p).transaction = none) (more : List Byte) :
    s.stretch p 0xF0#8 .whole (0xF0#8 :: more) =
      withPort s p
        { (s.port p).afterFetch (s.statusByte p) with
          dataOut := s.statusByte p :: thenZeros (s.port p).fetchFrame more.length } := by
  rw [State.stretch_eq_run hl (State.receivedSoFar_of_none h) (.inl rfl)]
  change ((s.select p).clockBytes p (0xF0#8 :: more)).deselect p = _
  rw [State.select_of_none h, State.clockBytes_of_first_fetch (by rw [port_withPort]), port_withPort, withPort_withPort,
    State.deselect_of_some (by rw [port_withPort]), port_withPort, withPort_withPort,
    State.takeReceived_other (by simp) (by simp), PortState.afterFetch_with]
  have ht := (s.port p).afterFetch_transaction (s.statusByte p)
  rw [h] at ht
  simp only [List.nil_append, ← ht]
  rfl

theorem statusThenZeros_cons (b : Byte) (more : List Byte) :
    statusThenZeros s p (b :: more) = s.statusByte p :: List.replicate more.length 0x00#8 := by
  rw [statusThenZeros, List.length_cons, thenZeros_succ]
  simp

/-- Settles O20: the port's rules for the code byte 0xC5 and for no code byte at all. -/
theorem commandTransactionFillsOrCollides : Obligations.CommandTransactionFillsOrCollides := by
  intro s p hl
  have plain : ∀ {code : Byte} (reply : List Byte) (n : Nat), code ≠ 0xF0#8 → code ≠ 0x3C#8 →
      s.bytesOut p code reply n = List.replicate n 0x00#8 := fun reply n hf hs => State.bytesOut_plain hf hs reply n
  refine ⟨fun h => ⟨fun frame => congrArg Host.Outcome.next ?whole, fun bytes hb => congrArg Host.Outcome.next ?codeless,
      congrArg Host.Outcome.next (State.stretch_first_nil hl h _)⟩,
    fun shown bytes h => congrArg Host.Outcome.next ?code,
    fun shown frame h => ⟨fun bytes => congrArg Host.Outcome.next ?inner, congrArg Host.Outcome.next ?last⟩,
    fun x h hx => congrArg Host.Outcome.next ?codelessLast⟩
  case whole =>
    rw [State.stretch_whole hl h (.inl rfl) (by decide), State.takeReceived_command, port_withPort, withPort_withPort,
      plain _ _ (by decide) (by decide), statusThenZeros_cons]
    exact congrArg (withPort s p) (PortState.afterFrame_with_dataOut _ _ frame)
  case codeless =>
    cases bytes with
    | nil =>
      rw [State.stretch_eq_run hl (State.receivedSoFar_of_none h) (.inr hb)]
      change (s.select p).deselect p = _
      rw [State.select_of_none h, State.deselect_of_some (by rw [port_withPort]), port_withPort, withPort_withPort]
      simp only [← h]
      rfl
    | cons b more =>
      have hne : ∀ code ∈ [0xC5#8, 0xF0#8, 0x3C#8, 0xA9#8], b ≠ code := fun code hm e => hb code hm (congrArg some e)
      rw [State.stretch_whole hl h (.inr hb) (hne _ (by simp)), State.takeReceived_other (hb _ (by simp)) hb.ne_portReset,
        plain _ _ (hne _ (by simp)) (hne _ (by simp)), statusThenZeros_cons]
  case code =>
    rw [State.stretch_inner hl h (.inl rfl), State.clockBytes_of_first h (by decide), plain _ _ (by decide) (by decide),
      thenZeros_succ]
    simp
  case inner =>
    rw [State.stretch_inner hl h (.inl rfl), State.clockBytes_of_code h rfl, plain _ _ (by decide) (by decide)]
    simp
  case last =>
    rw [State.stretch_last_nil hl h (.inl rfl), State.takeReceived_command, port_withPort, withPort_withPort]
    exact congrArg (withPort s p) (PortState.afterFrame_with_transaction _ none frame)
  case codelessLast =>
    rw [State.stretch_last_nil hl h (.inr hx), State.takeReceived_other (hx _ (by simp)) hx.ne_portReset]

/-- Settles O21: the port's rules for the code bytes 0xF0 and 0x3C. -/
theorem fetchTakesTheResponseAndStatusShowsTheByte : Obligations.FetchTakesTheResponseAndStatusShowsTheByte := by
  intro s p hl
  refine ⟨fun h => ⟨fun more => congrArg Host.Outcome.next (State.stretch_whole_fetch hl h more),
      fun more => congrArg Host.Outcome.next ?status, congrArg Host.Outcome.next (State.stretch_first_nil hl h _),
      congrArg Host.Outcome.next (State.stretch_first_nil hl h _)⟩,
    fun shown h => ⟨congrArg Host.Outcome.next ?fetchCode, congrArg Host.Outcome.next ?statusCode⟩,
    fun shown received reply h => ⟨fun bytes => congrArg Host.Outcome.next ?fetchInner,
      congrArg Host.Outcome.next ?fetchLast⟩,
    fun shown received h => ⟨fun bytes => congrArg Host.Outcome.next ?statusInner,
      congrArg Host.Outcome.next ?statusLast⟩⟩
  case status =>
    rw [State.stretch_whole hl h (.inl rfl) (by decide), State.takeReceived_other (by simp) (by simp),
      State.bytesOut_status, List.replicate_succ]
  case fetchCode =>
    rw [State.stretch_inner hl h (.inl rfl), State.clockBytes_of_first_fetch h]
    simp
  case statusCode =>
    rw [State.stretch_inner hl h (.inl rfl), State.clockBytes_of_first h (by decide)]
    simp [State.bytesOut_status]
  case fetchInner =>
    rw [State.stretch_inner hl h (.inl rfl), State.clockBytes_of_code h rfl, State.bytesOut_fetch]
    simp
  case fetchLast => rw [State.stretch_last_nil hl h (.inl rfl), State.takeReceived_other (by simp) (by simp)]
  case statusInner =>
    rw [State.stretch_inner hl h (.inl rfl), State.clockBytes_of_code h rfl, State.bytesOut_status]
    simp
  case statusLast => rw [State.stretch_last_nil hl h (.inl rfl), State.takeReceived_other (by simp) (by simp)]

/-- Settles O23: the first deassertion after a reset is the port's own, and a port that does not listen takes nothing. -/
theorem portListensFromDeselection : Obligations.PortListensFromDeselection := by
  intro s p
  refine ⟨fun hheld => next_of_released hheld (s.setPort p { s.port p with listening := true }), fun h part bytes => ?_⟩
  have hn : s.takesTransactions p = false := by rw [State.takesTransactions, h, Bool.and_false]
  have quiet : ∀ row, (Host.Outcome.next (s.stretch p row part bytes) : Result) = .next s := fun row =>
    congrArg Host.Outcome.next (State.stretch_of_not_takes hn row part bytes)
  exact ⟨quiet _, quiet _, quiet _, quiet _⟩

end Sys2Proof.Machine
end

section
/-! SUPPORT. The owning blocks of the commands: that each neither reads nor writes the wire side, that each either refuses
and leaves the state as it is or answers OK, and the table of the commands' decoders, checks and blocks. -/

namespace Sys2Proof.Machine

/-! ### The blocks and the wire side -/

/-- A block's answer to a command commutes with a change of the wire side. -/
def CommutesOnto {α : Type} (own : Port → α → State → State × Reply) : Prop :=
  ∀ (p : Port) (a : α) (s o : State), own p a (s.onto o) = ((own p a s).1.onto o, (own p a s).2)

theorem openOwn_onto : CommutesOnto openOwn := by
  intro p n s o
  unfold openOwn
  change (if s.isOpen p then _ else _) = _
  split <;> rfl

theorem setLeaseOwn_onto : CommutesOnto setLeaseOwn := fun _ _ _ _ => rfl

theorem renewOwn_onto : CommutesOnto renewOwn := fun _ _ _ _ => rfl

theorem closeOwn_onto : CommutesOnto closeOwn := fun p _ s o => congrArg (·, Reply.done) (State.endSession_onto s o p .closed)

theorem releaseOwn_onto : CommutesOnto releaseOwn := by
  intro p h s o
  unfold releaseOwn
  change (match s.resolve h with | none => _ | some r => _) = _
  cases s.resolve h with
  | none => rfl
  | some r =>
    simp only
    split
    · rfl
    · rw [State.dropRecord_onto, State.allocationPass_onto]

theorem revokeOwn_onto : CommutesOnto revokeOwn := by
  intro p h s o
  unfold revokeOwn
  change (match s.resolve h with | none => _ | some r => _) = _
  cases s.resolve h with
  | none => rfl
  | some r =>
    refine congrArg (·, Reply.done) ?_
    dsimp only
    rw [State.dropRecord_onto, ← State.allocationPass_onto, ← State.notify_onto]
    rfl

theorem queryClaimOwn_onto : CommutesOnto queryClaimOwn := by
  intro p h s o
  unfold queryClaimOwn
  change (match s.resolve h with | none => _ | some r => _) = _
  cases s.resolve h with
  | none => rfl
  | some r =>
    simp only
    change (if r.port ≠ p ∧ (s.session p).supervisor = false then _ else _) = _
    split <;> rfl

theorem queryBudgetOwn_onto : CommutesOnto queryBudgetOwn := fun _ _ _ _ => rfl

theorem queryChannelOwn_onto : CommutesOnto queryChannelOwn := fun _ _ _ _ => rfl

theorem clearTripOwn_onto : CommutesOnto clearTripOwn := by
  intro p c s o
  unfold clearTripOwn
  simp only
  change (if (s.channel c).state ≠ .tripped then _ else if (s.session p).supervisor = false ∧ (s.channel c).tripOwner ≠ some p then _
    else _) = _
  split
  · rfl
  · split
    · rfl
    · rw [← State.allocationPass_onto, ← State.followTripany_onto]
      rfl

theorem softTripOwn_onto : CommutesOnto softTripOwn := by
  intro p v s o
  unfold softTripOwn
  change (if (s.session p).soft = v then _ else _) = _
  split
  · rfl
  · rw [← State.inputEvent_onto]
    rfl

theorem takeNoticeOwn_onto : CommutesOnto takeNoticeOwn := by
  intro p u s o
  unfold takeNoticeOwn
  change (match (s.noticesOf p).queue with | [] => _ | n :: rest => _) = _
  cases (s.noticesOf p).queue <;> rfl

theorem setBudgetOwn_onto : CommutesOnto setBudgetOwn := fun _ o s o' =>
  congrArg (·, Reply.done) (State.reformBudget_onto { s with budget := { s.budget with normal := o.1, derated := o.2 } } o' true)

theorem setScanOwn_onto : CommutesOnto setScanOwn := fun _ _ _ _ => rfl

theorem setRailOwn_onto : CommutesOnto setRailOwn := fun _ _ _ _ => rfl

theorem setChannelLoopOwn_onto : CommutesOnto setChannelLoopOwn := by
  intro p x s o
  unfold setChannelLoopOwn
  simp only
  change (if ((s.channel x.channel).state = .idle ∨ (s.channel x.channel).state = .tripped) ∧ s.named x.channel = false then _
    else _) = _
  split <;> rfl

theorem setChannelLimitsOwn_onto : CommutesOnto setChannelLimitsOwn := fun _ _ _ _ => rfl

theorem setGroupOwn_onto : CommutesOnto setGroupOwn := fun _ x s o =>
  congrArg (·, Reply.done) (State.tripAction_onto s o (s.groupsSet x))

theorem clearGroupOwn_onto : CommutesOnto clearGroupOwn := by
  intro p g s o
  unfold clearGroupOwn
  change (match (s.group g).state with | .idle => _ | .active => _ | .latched => _) = _
  cases (s.group g).state with
  | idle | active => rfl
  | latched => exact congrArg (·, Reply.done) (State.tripAction_onto s o _)

theorem State.countPinChoice_onto (s o : State) : (s.onto o).countPinChoice = s.countPinChoice.onto o := by
  unfold State.countPinChoice
  change (if 2 ≤ s.changedPins.length then _ else _) = _
  split <;> rfl

theorem setPinsOwn_onto : CommutesOnto setPinsOwn := by
  intro p x s o
  have hcount : ((s.onto o).storePolarities x).countPinChoice = (s.storePolarities x).countPinChoice.onto o :=
    State.countPinChoice_onto (s.storePolarities x) o
  unfold setPinsOwn
  simp only [hcount]
  change (if assertedAt x.derate s.budget.derateLevel = s.budget.derateOn then _ else _) = _
  have horder : pinOrder ((s.onto o).storePolarities x).choice ((s.onto o).storePolarities x).changedPins =
    pinOrder (s.storePolarities x).choice (s.storePolarities x).changedPins := rfl
  rw [horder, State.takePins_onto, State.pinsEndWindDown_onto, State.allocationPass_onto]
  split
  · split <;> rfl
  · exact congrArg (·, Reply.done) (State.derateEvent_onto _ o _)

theorem setQuotaOwn_onto : CommutesOnto setQuotaOwn := fun _ _ _ _ => rfl

/-! ### Answers (R152 check 5) -/

/-- A block either refuses the command and leaves the state as it is, or answers OK. -/
def AnswersOrRefuses {α : Type} (own : Port → α → State → State × Reply) : Prop :=
  ∀ (p : Port) (a : α) (s : State), (∃ st, own p a s = (s, .refuse st)) ∨ (own p a s).2.status = .ok

theorem openOwn_answers : AnswersOrRefuses openOwn := by
  intro p n s
  unfold openOwn
  split
  · exact .inl ⟨_, rfl⟩
  · exact .inr rfl

theorem claimOwn_answers : AnswersOrRefuses claimOwn := by
  intro p o s
  unfold claimOwn
  split
  · exact .inl ⟨_, rfl⟩
  · exact .inr rfl

theorem adjustOwn_answers : AnswersOrRefuses adjustOwn := by
  intro p o s
  unfold adjustOwn
  split
  · exact .inl ⟨_, rfl⟩
  · split
    · exact .inl ⟨_, rfl⟩
    · split
      · exact .inl ⟨_, rfl⟩
      · next r _ _ _ =>
        unfold State.adjustRecord
        split
        · exact .inr rfl
        · split
          · exact .inr rfl
          · split
            · exact .inr rfl
            · split
              · exact .inr rfl
              · exact .inl ⟨_, rfl⟩

theorem releaseOwn_answers : AnswersOrRefuses releaseOwn := by
  intro p h s
  unfold releaseOwn
  split
  · exact .inl ⟨_, rfl⟩
  · split
    · exact .inl ⟨_, rfl⟩
    · exact .inr rfl

theorem revokeOwn_answers : AnswersOrRefuses revokeOwn := by
  intro p h s
  unfold revokeOwn
  split
  · exact .inl ⟨_, rfl⟩
  · exact .inr rfl

theorem queryClaimOwn_answers : AnswersOrRefuses queryClaimOwn := by
  intro p h s
  unfold queryClaimOwn
  split
  · exact .inl ⟨_, rfl⟩
  · split
    · exact .inl ⟨_, rfl⟩
    · exact .inr rfl

theorem clearTripOwn_answers : AnswersOrRefuses clearTripOwn := by
  intro p c s
  unfold clearTripOwn
  simp only
  split
  · exact .inl ⟨_, rfl⟩
  · split
    · exact .inl ⟨_, rfl⟩
    · exact .inr rfl

theorem softTripOwn_answers : AnswersOrRefuses softTripOwn := by
  intro p v s
  unfold softTripOwn
  split <;> exact .inr rfl

theorem takeNoticeOwn_answers : AnswersOrRefuses takeNoticeOwn := by
  intro p u s
  unfold takeNoticeOwn
  split
  · exact .inl ⟨_, rfl⟩
  · exact .inr rfl

theorem clearRailOwn_answers : AnswersOrRefuses clearRailOwn := by
  intro p u s
  unfold clearRailOwn
  split
  · exact .inl ⟨_, rfl⟩
  · split <;> exact .inr rfl

theorem setChannelLoopOwn_answers : AnswersOrRefuses setChannelLoopOwn := by
  intro p o s
  unfold setChannelLoopOwn
  simp only
  split
  · exact .inr rfl
  · exact .inl ⟨_, rfl⟩

theorem clearGroupOwn_answers : AnswersOrRefuses clearGroupOwn := by
  intro p g s
  unfold clearGroupOwn
  split
  · exact .inr rfl
  · exact .inl ⟨_, rfl⟩
  · exact .inr rfl

theorem setPinsOwn_answers : AnswersOrRefuses setPinsOwn := by
  intro p o s
  unfold setPinsOwn
  simp only
  split <;> exact .inr rfl

theorem evictOwn_answers : AnswersOrRefuses evictOwn := by
  intro p q s
  unfold evictOwn
  split
  · exact .inl ⟨_, rfl⟩
  · split
    · exact .inr rfl
    · exact .inl ⟨_, rfl⟩

/-! ### The sender's port and the pointer (R151) -/

/-- A block leaves the pointer and the sender's port as they are. -/
def KeepsSender {α : Type} (own : Port → α → State → State × Reply) : Prop :=
  ∀ (p : Port) (a : α) (s : State), (own p a s).1.pointer = s.pointer ∧ (own p a s).1.port p = s.port p

theorem CommutesOnto.keepsSender {α : Type} {own : Port → α → State → State × Reply} (h : CommutesOnto own) :
    KeepsSender own := by
  intro p a s
  have hs : (own p a s).1 = (own p a s).1.onto s := congrArg Prod.fst (h p a s s)
  exact ⟨by rw [hs]; rfl, by rw [hs]; rfl⟩

theorem statusOwn_keepsSender : KeepsSender statusOwn := fun _ _ _ => ⟨rfl, rfl⟩

theorem claimOwn_keepsSender : KeepsSender claimOwn := by
  intro p o s
  unfold claimOwn
  split
  · exact ⟨rfl, rfl⟩
  · simp only
    rw [State.allocationPass_frame]
    exact ⟨rfl, rfl⟩

theorem evictOwn_keepsSender : KeepsSender evictOwn := by
  intro p q s
  unfold evictOwn
  split
  · exact ⟨rfl, rfl⟩
  · next hne =>
    split
    · rw [State.lapse_eq]
      exact ⟨by rw [State.endSession_frame], PerPort.get_set_ne _ _ (Ne.symm hne)⟩
    · exact ⟨rfl, rfl⟩

/-- RESTART's part at the claims, the loops and the scanner leaves the wire's ports, the pointer and the sessions. -/
theorem State.restartBlocks_frame (s : State) :
    s.restartClaims.restartChannels.restartScanner.ports = s.ports ∧
      s.restartClaims.restartChannels.restartScanner.pointer = s.pointer ∧
      s.restartClaims.restartChannels.restartScanner.sessions = s.sessions := by
  refine ⟨?_, ?_, ?_⟩ <;> dsimp only [State.restartScanner, State.setScan, State.restartChannels, State.restartClaims]

theorem State.clearSofts_frame (s : State) : s.clearSofts = { s with sessions := s.clearSofts.sessions } := rfl

theorem State.restartGroups_frame (s : State) :
    s.restartGroups.ports = s.ports ∧ s.restartGroups.pointer = s.pointer ∧
      s.restartGroups.sessions = s.clearSofts.sessions := by
  unfold State.restartGroups
  simp only
  rw [State.putGroups_frame, State.clearSofts_frame]
  exact ⟨rfl, rfl, rfl⟩

/-- A step of RESTART's walk over the sessions ends a session and may discard another port's waiting command. -/
theorem State.restartSession_sender (u : State) (p q : Port) :
    (u.restartSession p q).pointer = u.pointer ∧ (u.restartSession p q).port p = u.port p := by
  unfold State.restartSession
  split
  · split
    · rw [State.endSession_frame]
      exact ⟨rfl, rfl⟩
    · next hne =>
      rw [State.lapse_eq]
      exact ⟨by rw [State.endSession_frame], PerPort.get_set_ne _ _ (Ne.symm hne)⟩
  · exact ⟨rfl, rfl⟩

/-- RESTART's last part empties the notice queues, records the cause and runs a pass. -/
theorem State.restartEnd_sender (u : State) :
    ({ allPorts.foldl (fun t q => t.emptyNotices q) u with cause := .restart } : State).allocationPass.pointer = u.pointer ∧
      ({ allPorts.foldl (fun t q => t.emptyNotices q) u with cause := .restart } : State).allocationPass.ports = u.ports := by
  rw [State.allocationPass_frame]
  exact ⟨rfl, rfl⟩

theorem restartOwn_keepsSender : KeepsSender restartOwn := by
  intro p a s
  dsimp only [restartOwn]
  obtain ⟨hports, hpointer, -⟩ := s.restartBlocks_frame
  obtain ⟨gports, gpointer, -⟩ := s.restartClaims.restartChannels.restartScanner.restartGroups_frame
  have sessions : ∀ (l : List Port) (u : State), (l.foldl (fun t q => t.restartSession p q) u).pointer = u.pointer ∧
      (l.foldl (fun t q => t.restartSession p q) u).port p = u.port p := by
    intro l
    induction l with
    | nil => exact fun u => ⟨rfl, rfl⟩
    | cons q l ih =>
      intro u
      obtain ⟨h1, h2⟩ := u.restartSession_sender p q
      exact ⟨(ih _).1.trans h1, (ih _).2.trans h2⟩
  have ends : ∀ u : State, u.pointer = s.pointer → u.port p = s.port p →
      ({ allPorts.foldl (fun t q => t.emptyNotices q) (allPorts.foldl (fun t q => t.restartSession p q) u) with
        cause := .restart } : State).allocationPass.pointer = s.pointer ∧
      ({ allPorts.foldl (fun t q => t.emptyNotices q) (allPorts.foldl (fun t q => t.restartSession p q) u) with
        cause := .restart } : State).allocationPass.port p = s.port p := by
    intro u hp hport
    obtain ⟨h1, h2⟩ := State.restartEnd_sender (allPorts.foldl (fun t q => t.restartSession p q) u)
    obtain ⟨h3, h4⟩ := sessions allPorts u
    exact ⟨h1.trans (h3.trans hp), (congrArg (PerPort.get · p) h2).trans (h4.trans hport)⟩
  exact ends _ (gpointer.trans hpointer) ((congrArg (PerPort.get · p) (gports.trans hports)))

end Sys2Proof.Machine
end

section
/-! SUPPORT. The executor: its round, the table of the commands, the order of the checks, and what a refusal leaves. -/

namespace Sys2Proof.Machine

/-! ### The round (R151) -/

/-- The ports of the round stand in order of their distance behind the pointer. -/
theorem roundFrom_sorted (pointer : Port) :
    (roundFrom pointer).Pairwise fun p q => roundDistance pointer p < roundDistance pointer q := by
  cases pointer <;> decide

theorem roundDistance_le (pointer p : Port) : roundDistance pointer p ≤ 3 := by
  cases pointer <;> cases p <;> decide

/-- A port behind another in the round is nearer its front once the pointer names the other. -/
theorem roundDistance_from_served {pointer p q : Port} (h : roundDistance pointer p < roundDistance pointer q) :
    roundDistance p q < roundDistance pointer q := by
  revert h
  cases pointer <;> cases p <;> cases q <;> decide

/-- Where two ports wait, the one taken is not behind the other. -/
theorem Takes.first {s : State} {p q : Port} {c : Command} (h : Takes s p c) (hq : (s.port q).command.isSome = true) :
    roundDistance s.pointer p ≤ roundDistance s.pointer q := by
  obtain ⟨before, x, after, hround, hx, hnone⟩ := List.findSome?_eq_some_iff.mp h
  obtain ⟨d, -, hd⟩ := Option.map_eq_some_iff.mp hx
  obtain rfl : x = p := congrArg Prod.fst hd
  have hsorted := roundFrom_sorted s.pointer
  rw [hround] at hsorted
  have hmem : q ∈ before ++ x :: after := hround ▸ mem_roundFrom s.pointer q
  rcases List.mem_append.mp hmem with hb | hb
  · have := hnone q hb
    rw [Option.map_eq_none_iff] at this
    rw [this] at hq
    cases hq
  · rcases List.mem_cons.mp hb with rfl | hb
    · exact le_rfl
    · exact ((List.pairwise_cons.mp (List.pairwise_append.mp hsorted).2.1).1 q hb).le

/-- The command taken is that of the waiting port nearest the front of the round. -/
theorem takes_iff (s : State) (p : Port) (c : Command) :
    Takes s p c ↔ (s.port p).command = some c ∧
      ∀ q, (s.port q).command.isSome = true → roundDistance s.pointer p ≤ roundDistance s.pointer q := by
  refine ⟨fun h => ⟨State.nextWaiting_command h, fun q hq => h.first hq⟩, fun ⟨hc, hmin⟩ => ?_⟩
  cases hn : s.nextWaiting with
  | none =>
    have := (State.nextWaiting_eq_none s).mp hn p
    rw [hc] at this
    cases this
  | some x =>
    obtain ⟨q, d⟩ := x
    have hq : Takes s q d := hn
    have hd := State.nextWaiting_command hn
    have hle := hmin q (by rw [hd]; rfl)
    have hge := hq.first (q := p) (by rw [hc]; rfl)
    obtain rfl := roundDistance_injective (Nat.le_antisymm hle hge)
    rw [hc] at hd
    cases hd
    exact hn

/-! ### The table of the commands (R152, R155) -/

/-- How the executor carries out the commands of an opcode: the payload's decoder, the session check, whether the command
is the supervisor's alone, and the owning block. -/
structure CommandRow (i : Instr) (opcode : Byte) where
  operands : Type
  decode : List Byte → Option operands
  gate : Gate
  sup : Bool
  own : Port → operands → State → State × Reply
  exec_eq : ∀ s, exec i s = .next (s.execute opcode decode gate sup own)
  operandsPass_eq : ∀ l, operandsPass opcode l = (decode l).isSome
  gate_eq : i ≠ .openSession → i ≠ .status → gate = .openOnly
  sup_eq : supervisorOnly opcode = sup
  answers : AnswersOrRefuses own
  keeps : KeepsSender own

theorem isEmpty_eq_noOperands (l : List Byte) : l.isEmpty = (noOperands l).isSome := by cases l <;> rfl

theorem done_answers {α : Type} {f : Port → α → State → State} :
    AnswersOrRefuses fun p a s => (f p a s, Reply.done) := fun _ _ _ => .inr rfl

/-- The row of a command that needs an OPEN session. -/
theorem commandRow_of_open {i : Instr} {opcode o : Byte} {α : Type} {decode : List Byte → Option α} {sup : Bool}
    {own : Port → α → State → State × Reply} (h : some o = some opcode)
    (exec_eq : ∀ s, exec i s = .next (s.execute o decode .openOnly sup own))
    (operandsPass_eq : ∀ l, operandsPass o l = (decode l).isSome) (sup_eq : supervisorOnly o = sup)
    (answers : AnswersOrRefuses own) (keeps : KeepsSender own) : Nonempty (CommandRow i opcode) := by
  cases h
  exact ⟨⟨_, decode, .openOnly, sup, own, exec_eq, operandsPass_eq, fun _ _ => rfl, sup_eq, answers, keeps⟩⟩

/-- Every command of an opcode has its row. -/
theorem commandRow {i : Instr} {opcode : Byte} (h : opcodeOf i = some opcode) : Nonempty (CommandRow i opcode) := by
  cases i with
  | powerOnReset | pinReset | resetRelease _ _ _ _ | derateEvent _ | fltPinChange _ _ | scanCycleStart
  | channelConversionEnd _ _ | railConversionEnd _ | leaseTick _ | leaseExpiry _ | frameStart | slotStart
  | commandTransaction _ _ _ | fetch _ _ _ | statusTransaction _ _ _ | portReset _ _ _ | unknownOpcode
  | portSelectDeassertedAfterReset _ => cases h
  | openSession =>
    cases h
    exact ⟨⟨_, leaseOperand, .always, false, openOwn, fun _ => rfl, fun _ => rfl, nofun, rfl, openOwn_answers,
      openOwn_onto.keepsSender⟩⟩
  | status =>
    cases h
    exact ⟨⟨_, noOperands, .always, false, statusOwn, fun _ => rfl, isEmpty_eq_noOperands, fun _ h => absurd rfl h, rfl,
      fun _ _ _ => .inr rfl, statusOwn_keepsSender⟩⟩
  | closeSession => exact commandRow_of_open h (fun _ => rfl) isEmpty_eq_noOperands rfl done_answers closeOwn_onto.keepsSender
  | renew => exact commandRow_of_open h (fun _ => rfl) isEmpty_eq_noOperands rfl (fun _ _ _ => .inr rfl) renewOwn_onto.keepsSender
  | setLease => exact commandRow_of_open h (fun _ => rfl) (fun _ => rfl) rfl done_answers setLeaseOwn_onto.keepsSender
  | claim => exact commandRow_of_open h (fun _ => rfl) (fun _ => rfl) rfl claimOwn_answers claimOwn_keepsSender
  | adjust => exact commandRow_of_open h (fun _ => rfl) (fun _ => rfl) rfl adjustOwn_answers (CommutesOnto.keepsSender adjustOwn_onto)
  | release => exact commandRow_of_open h (fun _ => rfl) (fun _ => rfl) rfl releaseOwn_answers releaseOwn_onto.keepsSender
  | revoke => exact commandRow_of_open h (fun _ => rfl) (fun _ => rfl) rfl revokeOwn_answers revokeOwn_onto.keepsSender
  | queryClaim => exact commandRow_of_open h (fun _ => rfl) (fun _ => rfl) rfl queryClaimOwn_answers queryClaimOwn_onto.keepsSender
  | queryBudget => exact commandRow_of_open h (fun _ => rfl) isEmpty_eq_noOperands rfl (fun _ _ _ => .inr rfl) queryBudgetOwn_onto.keepsSender
  | queryChannel => exact commandRow_of_open h (fun _ => rfl) (fun _ => rfl) rfl (fun _ _ _ => .inr rfl) queryChannelOwn_onto.keepsSender
  | clearTrip => exact commandRow_of_open h (fun _ => rfl) (fun _ => rfl) rfl clearTripOwn_answers clearTripOwn_onto.keepsSender
  | softTrip => exact commandRow_of_open h (fun _ => rfl) (fun _ => rfl) rfl softTripOwn_answers softTripOwn_onto.keepsSender
  | takeNotice => exact commandRow_of_open h (fun _ => rfl) isEmpty_eq_noOperands rfl takeNoticeOwn_answers takeNoticeOwn_onto.keepsSender
  | setBudget => exact commandRow_of_open h (fun _ => rfl) (fun _ => rfl) rfl done_answers setBudgetOwn_onto.keepsSender
  | setScan => exact commandRow_of_open h (fun _ => rfl) (fun _ => rfl) rfl done_answers setScanOwn_onto.keepsSender
  | setRail => exact commandRow_of_open h (fun _ => rfl) (fun _ => rfl) rfl done_answers setRailOwn_onto.keepsSender
  | clearRail => exact commandRow_of_open h (fun _ => rfl) isEmpty_eq_noOperands rfl clearRailOwn_answers (CommutesOnto.keepsSender clearRailOwn_onto)
  | setChannelLoop => exact commandRow_of_open h (fun _ => rfl) (fun _ => rfl) rfl setChannelLoopOwn_answers setChannelLoopOwn_onto.keepsSender
  | setChannelLimits => exact commandRow_of_open h (fun _ => rfl) (fun _ => rfl) rfl done_answers setChannelLimitsOwn_onto.keepsSender
  | setGroup => exact commandRow_of_open h (fun _ => rfl) (fun _ => rfl) rfl done_answers setGroupOwn_onto.keepsSender
  | clearGroup => exact commandRow_of_open h (fun _ => rfl) (fun _ => rfl) rfl clearGroupOwn_answers clearGroupOwn_onto.keepsSender
  | setPins => exact commandRow_of_open h (fun _ => rfl) (fun _ => rfl) rfl setPinsOwn_answers setPinsOwn_onto.keepsSender
  | setQuota => exact commandRow_of_open h (fun _ => rfl) (fun _ => rfl) rfl done_answers setQuotaOwn_onto.keepsSender
  | evict => exact commandRow_of_open h (fun _ => rfl) (fun _ => rfl) rfl evictOwn_answers evictOwn_keepsSender
  | restart => exact commandRow_of_open h (fun _ => rfl) isEmpty_eq_noOperands rfl done_answers restartOwn_keepsSender

/-! ### The checks in order (R117, R152) -/

section Row
variable {i : Instr} {s : State} {p : Port} {c : Command}

theorem exec_unknownOpcode (h : Takes s p c) (hk : knownOpcodes.contains c.opcode = false) :
    exec .unknownOpcode s = .next (s.refused p c .unknown) := by
  refine congrArg Host.Outcome.next ?_
  rw [show s.nextWaiting = some (p, c) from h]
  simp only [hk, Bool.false_eq_true, if_false]
  exact answer_refuse s p c .unknown

/-- A command that passes check 2 has operands. -/
theorem CommandRow.operands_of_pass {opcode : Byte} (row : CommandRow i opcode) {l : List Byte}
    (h : operandsPass opcode l = true) : ∃ a, row.decode l = some a := by
  rw [row.operandsPass_eq] at h
  exact Option.isSome_iff_exists.mp h

/-- What the executor's step leaves: a refusal, or its block's answer OK. -/
theorem CommandRow.exec_cases (row : CommandRow i c.opcode) (h : Takes s p c) :
    (∃ st, exec i s = .next (s.refused p c st)) ∨
      ∃ a, (row.own p a (s.takeFrom p)).2.status = .ok ∧ exec i s = .next (answer p c (row.own p a (s.takeFrom p))) := by
  have hexec := (row.exec_eq s).trans (congrArg Host.Outcome.next
    (State.execute_of_takes (decode := row.decode) (gate := row.gate) (sup := row.sup) (own := row.own) h rfl))
  rcases State.carryOut_cases row.decode row.gate row.sup row.own (s.takeFrom p) p c.payload with
    ⟨st, -, hr⟩ | ⟨a, -, -, -, ho⟩
  · exact .inl ⟨st, by rw [hexec, hr, answer_refuse]⟩
  · rw [ho] at hexec
    rcases row.answers p a (s.takeFrom p) with ⟨st, hr⟩ | hok
    · exact .inl ⟨st, by rw [hexec, hr, answer_refuse]⟩
    · exact .inr ⟨a, hok, hexec⟩

/-- Settles O25: the row's checks, one after another. -/
theorem firstFailedCheckDecidesTheStatus : Obligations.FirstFailedCheckDecidesTheStatus := by
  intro s p c h
  refine ⟨exec_unknownOpcode h, fun i hi => ?_⟩
  obtain ⟨row⟩ := commandRow hi
  refine ⟨fun hbad => ?operands, fun hpass hno hns => ⟨fun hs => ?closed, fun hs => ?lapsed⟩,
    fun hpass hs hsup hn => ?supervisor⟩
  case operands =>
    have hd : row.decode c.payload = none := by
      rw [row.operandsPass_eq] at hbad
      exact Option.isSome_eq_false_iff.mp hbad |> Option.isNone_iff_eq_none.mp
    rw [row.exec_eq, State.execute_refused h rfl (State.carryOut_badOperand hd)]
  case closed =>
    obtain ⟨a, hd⟩ := row.operands_of_pass hpass
    rw [row.exec_eq, row.gate_eq hno hns, State.execute_refused h rfl (State.carryOut_noSession (s := s.takeFrom p) hd hs)]
  case lapsed =>
    obtain ⟨a, hd⟩ := row.operands_of_pass hpass
    rw [row.exec_eq, row.gate_eq hno hns, State.execute_refused h rfl (State.carryOut_lapsed (s := s.takeFrom p) hd hs)]
  case supervisor =>
    obtain ⟨a, hd⟩ := row.operands_of_pass hpass
    rw [row.exec_eq, ← row.sup_eq, hsup,
      State.execute_refused h rfl (State.carryOut_notSupervisor (s := s.takeFrom p) hd hs hn)]

theorem State.port_answered (u : State) (p : Port) (c : Command) (st : Status) (payload : List Byte) :
    (u.answered p c st payload).port p =
      { u.port p with
        command := none
        response := some ⟨st, c.tag, c.opcode, payload⟩
        overwritten := (u.port p).overwritten || (u.port p).response.isSome } := PerPort.get_set_self _ p _

/-- Settles O26: a step that is no refusal is answered OK. -/
theorem refusalsChangeNothing : Obligations.RefusalsChangeNothing := by
  intro i s t p c r h hi ht hr hne
  have refused : ∀ st, exec i s = .next (s.refused p c st) → t = s.refused p c r.status := by
    intro st e
    obtain rfl : t = s.refused p c st := Host.Outcome.next.inj (ht.symm.trans e)
    rw [State.refused, State.port_answered] at hr
    cases hr
    rfl
  rcases hi with hi | ⟨rfl, hk⟩
  · obtain ⟨row⟩ := commandRow hi
    rcases row.exec_cases h with ⟨st, e⟩ | ⟨a, hok, e⟩
    · exact refused st e
    · obtain rfl := Host.Outcome.next.inj (ht.symm.trans e)
      rw [answer, State.port_writeResponse_self, PortState.write_response] at hr
      cases hr
      exact absurd hok hne
  · exact refused _ (exec_unknownOpcode h hk)

/-- Settles O24: the round's order, and a step's pointer and slot from its row. -/
theorem executorServesInRoundRobinOrder : Obligations.ExecutorServesInRoundRobinOrder := by
  intro s p c
  refine ⟨takes_iff s p c, fun h q hne hq => ?nearer, fun i t h hi ht => ?served⟩
  case nearer =>
    have hlt : roundDistance s.pointer p < roundDistance s.pointer q :=
      lt_of_le_of_ne (h.first hq) fun e => hne (roundDistance_injective e).symm
    exact ⟨roundDistance_from_served hlt, roundDistance_le _ _⟩
  case served =>
    have refused : ∀ st, exec i s = .next (s.refused p c st) → t.pointer = p ∧ (t.port p).command = none := by
      intro st e
      obtain rfl : t = s.refused p c st := Host.Outcome.next.inj (ht.symm.trans e)
      exact ⟨rfl, by rw [State.refused, State.port_answered]⟩
    rcases hi with hi | ⟨rfl, hk⟩
    · obtain ⟨row⟩ := commandRow hi
      rcases row.exec_cases h with ⟨st, e⟩ | ⟨a, -, e⟩
      · exact refused st e
      · obtain rfl := Host.Outcome.next.inj (ht.symm.trans e)
        obtain ⟨hpointer, hport⟩ := row.keeps p a (s.takeFrom p)
        refine ⟨hpointer, ?_⟩
        rw [answer, State.port_writeResponse_self, PortState.write_command, hport]
        simp [State.takeFrom, State.port, State.setPort]
    · exact refused _ (exec_unknownOpcode h hk)

end Row

end Sys2Proof.Machine
end

section
/-! SUPPORT. The claim commands: CLAIM's tests and its record, the tests of a quoted handle, and what RELEASE and REVOKE
leave. -/

namespace Sys2Proof.Machine

variable {s : State} {p : Port} {c : Command}

/-! ### CLAIM's tests (R8) -/

theorem State.holdsOn_iff (s : State) (p : Port) (ch : Channel) :
    s.holdsOn p ch = true ↔ ∃ i, (s.record i).map (fun r => (r.port, r.channel)) = some (p, ch) := by
  unfold State.holdsOn
  rw [List.any_eq_true]
  refine ⟨fun ⟨i, _, h⟩ => ⟨i, ?_⟩, fun ⟨i, h⟩ => ⟨i, mem_allSlots i, ?_⟩⟩ <;>
    cases hr : s.record i <;> simp_all

theorem State.lowestFree_eq_none (s : State) : s.lowestFree = none ↔ ∀ i, (s.record i).isSome = true := by
  unfold State.lowestFree
  rw [List.find?_eq_none]
  simp [← Option.isSome_iff_ne_none]

/-- The lowest-numbered free slot is free, and every slot below it holds a record (R9). -/
theorem State.lowestFree_eq_some {i : Fin 24} (hfree : s.record i = none) (hbelow : ∀ j, j < i → (s.record j).isSome = true) :
    s.lowestFree = some i := by
  cases hf : s.lowestFree with
  | none =>
    have := (State.lowestFree_eq_none s).mp hf i
    rw [hfree] at this
    cases this
  | some j =>
    obtain ⟨hj, before, after, hsplit, hnone⟩ := List.find?_eq_some_iff_append.mp hf
    have hsorted : allSlots.Pairwise (· < ·) := List.pairwise_lt_finRange 24
    rw [hsplit] at hsorted
    have hi : i ∈ before ++ j :: after := hsplit ▸ mem_allSlots i
    rcases List.mem_append.mp hi with hb | hb
    · have := hnone i hb
      rw [hfree] at this
      cases this
    · rcases List.mem_cons.mp hb with rfl | hb
      · rfl
      · have hlt : j < i := (List.pairwise_cons.mp (List.pairwise_append.mp hsorted).2.1).1 i hb
        have := hbelow j hlt
        rw [Option.isNone_iff_eq_none.mp hj] at this
        cases this

theorem exec_claim_refused {o : ClaimOperands} {st : Status} (h : TakenOpen s p c 0x10#8)
    (hd : claimOperands c.payload = some o) (ht : s.admitClaim p o = .error st) :
    exec .claim s = .next (s.refused p c st) := by
  refine congrArg Host.Outcome.next (State.execute_own_refuses h.taken h.opcode hd (.inr h.opened) (.inl rfl) ?_)
  have ht' : (s.takeFrom p).admitClaim p o = .error st := ht
  unfold claimOwn
  rw [ht']

/-- Settles O33: the allocator's tests, one after another. -/
theorem claimIsRefusedByTheFirstFailedTest : Obligations.ClaimIsRefusedByTheFirstFailedTest := by
  intro s p c o h hd
  have refused : ∀ {st}, s.admitClaim p o = .error st → exec .claim s = .next (s.refused p c st) :=
    fun ht => exec_claim_refused h hd ht
  unfold State.admitClaim at refused
  split
  · next hcls => exact refused (if_pos hcls)
  next hcls =>
  rw [if_neg hcls] at refused
  split
  · next hen => exact refused (if_pos hen)
  next hen =>
  rw [if_neg hen] at refused
  split
  · next hrate => exact refused (if_pos hrate)
  next hrate =>
  rw [if_neg hrate] at refused
  split
  · next hbudget => exact refused (if_pos hbudget)
  next hbudget =>
  rw [if_neg hbudget] at refused
  split
  · next hdup => exact refused (if_pos ((State.holdsOn_iff s p _).mpr hdup))
  next hdup =>
  rw [if_neg (mt (State.holdsOn_iff s p _).mp hdup)] at refused
  split
  · next hquota => exact refused (if_pos hquota)
  next hquota =>
  rw [if_neg hquota] at refused
  split
  · next hfull =>
    refine refused ?_
    rcases hfull with hfull | hstamp
    · rw [(State.lowestFree_eq_none s).mpr hfull]
    · split
      · exact if_neg (Nat.not_lt.mpr hstamp)
      · rfl
  · trivial

/-! ### The record that CLAIM makes (R9) -/

theorem State.admitClaim_eq_ok {o : ClaimOperands} {i : Fin 24} (hcls : (s.session p).floor ≤ o.cls)
    (hen : (s.channel o.channel).config.enable = true) (hrate : o.amount ≤ (s.channel o.channel).config.rating)
    (hbudget : o.amount ≤ s.budget.normal)
    (hdup : ∀ j, (s.record j).map (fun r => (r.port, r.channel)) ≠ some (p, o.channel))
    (hquota : s.count p < (s.session p).quota) (hfree : s.record i = none)
    (hbelow : ∀ j, j < i → (s.record j).isSome = true) (hstamp : s.stamp < 4294967295) : s.admitClaim p o = .ok i := by
  have hholds : ¬ s.holdsOn p o.channel = true := fun h =>
    let ⟨j, hj⟩ := (State.holdsOn_iff s p _).mp h
    hdup j hj
  unfold State.admitClaim
  rw [if_neg (not_lt.mpr hcls), if_neg (by rw [hen]; decide), if_neg (not_lt.mpr hrate), if_neg (not_lt.mpr hbudget),
    if_neg hholds, if_neg (not_le.mpr hquota), State.lowestFree_eq_some hfree hbelow]
  exact if_pos hstamp

/-- The step of an admitted CLAIM: the record made, the pass, and the handle and the grant answered (R9). -/
theorem exec_claim_admitted {o : ClaimOperands} {i : Fin 24} (h : TakenOpen s p c 0x10#8)
    (hd : claimOperands c.payload = some o) (ht : s.admitClaim p o = .ok i) :
    exec .claim s = .next ((s.makeClaim p o i).allocationPass.answered p c .ok
      (byte2 ((s.makeClaim p o i).allocationPass.handleAt i).code ++
        byte1 (bit ((s.makeClaim p o i).allocationPass.recordIs .granted i)))) := by
  refine congrArg Host.Outcome.next ?_
  have ht' : (s.takeFrom p).admitClaim p o = .ok i := ht
  have hco : State.carryOut claimOperands .openOnly false claimOwn (s.takeFrom p) p c.payload = claimOwn p o (s.takeFrom p) :=
    State.carryOut_own (s := s.takeFrom p) hd (.inr h.opened) (.inl rfl)
  have hmade : (s.takeFrom p).makeClaim p o i = (s.makeClaim p o i).onto ((s.makeClaim p o i).takeFrom p) := rfl
  rw [State.execute_of_takes h.taken h.opcode, hco, claimOwn, ht']
  simp only
  rw [hmade, State.allocationPass_onto]
  exact answer_onto (s.makeClaim p o i) _ p c ⟨.ok, _⟩ (State.keeps_wire State.allocationPass_onto _)

/-- Settles O34: the tests pass, and the handle answered is of the slot taken. -/
theorem claimMakesARecordInTheLowestFreeSlot : Obligations.ClaimMakesARecordInTheLowestFreeSlot := by
  intro s p c o i h hd hcls hen hrate hbudget hdup hquota hfree hbelow hstamp made
  have hexec := exec_claim_admitted h hd (State.admitClaim_eq_ok hcls hen hrate hbudget hdup hquota hfree hbelow hstamp)
  have hgen : (s.makeClaim p o i).allocationPass.handleAt i = ⟨(s.slot i).gen, i⟩ := by
    rw [State.handleAt, (State.allocationPass_slot _ i).1]
    have hmade := congrArg Slot.gen
      (State.slot_setSlot_self s i ⟨(s.slot i).gen, some ⟨p, o.channel, o.amount, o.cls, s.stamp, .pending, 0⟩⟩)
    exact congrArg (Handle.mk · i) hmade
  rw [hgen, byte2_handle_code, byte1_eq_field, bit_eq] at hexec
  exact hexec

/-! ### Quoted handles (R3) -/

section Handles
variable {h : Handle}

theorem adjustOwn_of_stale {o : AdjustOperands} (hr : s.resolve o.handle = none) : adjustOwn p o s = (s, .refuse .stale) := by
  unfold adjustOwn; rw [hr]

theorem releaseOwn_of_stale (hr : s.resolve h = none) : releaseOwn p h s = (s, .refuse .stale) := by
  unfold releaseOwn; rw [hr]

theorem queryClaimOwn_of_stale (hr : s.resolve h = none) : queryClaimOwn p h s = (s, .refuse .stale) := by
  unfold queryClaimOwn; rw [hr]

theorem revokeOwn_of_stale (hr : s.resolve h = none) : revokeOwn p h s = (s, .refuse .stale) := by
  unfold revokeOwn; rw [hr]

variable {r : Claim}

theorem adjustOwn_of_other {o : AdjustOperands} (hr : s.resolve o.handle = some r) (hp : r.port ≠ p) :
    adjustOwn p o s = (s, .refuse .notOwner) := by
  unfold adjustOwn; rw [hr]; exact if_pos hp

theorem releaseOwn_of_other (hr : s.resolve h = some r) (hp : r.port ≠ p) : releaseOwn p h s = (s, .refuse .notOwner) := by
  unfold releaseOwn; rw [hr]; exact if_pos hp

theorem queryClaimOwn_of_other (hr : s.resolve h = some r) (hp : r.port ≠ p) (hs : (s.session p).supervisor = false) :
    queryClaimOwn p h s = (s, .refuse .notOwner) := by
  unfold queryClaimOwn; rw [hr]; exact if_pos ⟨hp, hs⟩

end Handles

/-- Settles O35: the resolution of the handle decides in each command's block. -/
theorem handlesAreResolvedBeforeTheCommand : Obligations.HandlesAreResolvedBeforeTheCommand := by
  intro s p c h
  have adjusts : TakenOpen s p c 0x11#8 → (adjustOperands c.payload).map AdjustOperands.handle = some h → ∀ st,
      (∀ o : AdjustOperands, o.handle = h → adjustOwn p o (s.takeFrom p) = (s.takeFrom p, .refuse st)) →
      exec .adjust s = .next (s.refused p c st) := by
    intro ht hd st hown
    obtain ⟨o, ho, rfl⟩ := Option.map_eq_some_iff.mp hd
    exact congrArg Host.Outcome.next
      (State.execute_own_refuses ht.taken ht.opcode ho (.inr ht.opened) (.inl rfl) (hown o rfl))
  refine ⟨fun hstale => ?_, fun r hgen hrec hp => ?_⟩
  · have hr : (s.takeFrom p).resolve h = none := State.resolve_eq_none.mpr hstale
    refine ⟨fun ht hd => adjusts ht hd _ fun o ho => adjustOwn_of_stale (ho ▸ hr),
      fun ht hd => congrArg Host.Outcome.next ?_, fun ht hd => congrArg Host.Outcome.next ?_,
      fun ht hd => congrArg Host.Outcome.next ?_⟩
    · exact State.execute_own_refuses ht.taken ht.opcode hd (.inr ht.opened) (.inl rfl) (releaseOwn_of_stale hr)
    · exact State.execute_own_refuses ht.taken ht.opcode hd (.inr ht.opened) (.inl rfl) (queryClaimOwn_of_stale hr)
    · exact State.execute_own_refuses ht.taken ht.opcode hd (.inr ht.opened) (.inr ht.supervisor) (revokeOwn_of_stale hr)
  · have hr : (s.takeFrom p).resolve h = some r := State.resolve_eq_some.mpr ⟨hgen, hrec⟩
    refine ⟨fun ht hd => adjusts ht hd _ fun o ho => adjustOwn_of_other (ho ▸ hr) hp,
      fun ht hd => congrArg Host.Outcome.next ?_, fun ht hs hd => congrArg Host.Outcome.next ?_⟩
    · exact State.execute_own_refuses ht.taken ht.opcode hd (.inr ht.opened) (.inl rfl) (releaseOwn_of_other hr hp)
    · exact State.execute_own_refuses ht.taken ht.opcode hd (.inr ht.opened) (.inl rfl) (queryClaimOwn_of_other hr hp hs)

/-! ### RELEASE and REVOKE (R14, R15) -/

theorem releaseOwn_of_live {h : Handle} {r : Claim} (hr : s.resolve h = some r) (hp : r.port = p) :
    releaseOwn p h s = ((s.dropRecord h.slot).allocationPass, .done) := by
  unfold releaseOwn; rw [hr]; exact if_neg fun hne => hne hp

theorem revokeOwn_of_live {h : Handle} {r : Claim} (hr : s.resolve h = some r) :
    revokeOwn p h s =
      (((s.dropRecord h.slot).notify r.port
        ((s.dropRecord h.slot).claimNotice .revoked r.channel (some h) none)).allocationPass, .done) := by
  unfold revokeOwn; rw [hr]

/-- What the end of a claim leaves unread by a notice: the sessions, the notice queues and the scanner. -/
theorem withNotice_dropRecord (s : State) (i : Fin 24) (q : Port) (n : Notice) :
    withNotice (s.dropRecord i) q n = withNotice s q n := by
  unfold withNotice
  rw [State.dropRecord_frame]
  rfl

/-- Settles O37: the block's answer under a live handle, the record's end being the one that a frame gives. -/
theorem releaseAndRevokeFreeTheClaim : Obligations.ReleaseAndRevokeFreeTheClaim := by
  intro s p c h r hd hgen hrec hgranted
  have hr : s.resolve h = some r := State.resolve_eq_some.mpr ⟨hgen, hrec⟩
  have hdrop := State.dropRecord_eq s h.slot r hrec hgranted
  refine ⟨fun ht hp => congrArg Host.Outcome.next ?release, fun ht => congrArg Host.Outcome.next ?revoke⟩
  case release =>
    have hexec := State.execute_own_of_onto ht hd (.inl rfl) (releaseOwn_onto p h)
    rw [releaseOwn_of_live hr hp, hdrop] at hexec
    exact hexec
  case revoke =>
    have hexec := State.execute_own_of_onto (sup := true) ht.toTakenOpen hd (.inr ht.supervisor) (revokeOwn_onto p h)
    have hnotice : (s.dropRecord h.slot).claimNotice .revoked r.channel (some h) none = noticeOf s .revoked r.channel (some h) none := by
      rw [State.dropRecord_frame]; rfl
    rw [revokeOwn_of_live hr, State.notify_eq, withNotice_dropRecord, hnotice, hdrop] at hexec
    exact hexec

end Sys2Proof.Machine
end

section
/-! SUPPORT. The measurement action: the delivery of a window's value, one equation for each report of the loop, and each
loop state's step (R53 to R62, R76, R78, R90). -/

namespace Sys2Proof.Machine

variable {s : State} {c : Channel} {input : Int} {m : Nat}

/-! ### The delivery (R89, R90) -/

theorem Window.add_of_complete {w : Window} {code n : Nat} (h : w.count + 1 = n) : w.add code n = ⟨0, 0⟩ := if_pos h

theorem Window.add_of_open {w : Window} {code n : Nat} (h : w.count + 1 < n) :
    w.add code n = ⟨w.sum + code, w.count + 1⟩ := if_neg h.ne

theorem exec_channelConversionEnd (hheld : s.resetHeld = false) :
    exec (.channelConversionEnd c input) s = .next (s.channelConversion c (convert input)) :=
  next_of_released hheld _

/-- The end of a window's last conversion is a measurement of its value. -/
theorem Delivers.exec_eq (h : Delivers s c input m) :
    exec (.channelConversionEnd c input) s = .next ((s.setScan (windowDone s c)).measurement c m) := by
  have hwindow : s.windowAdd c (convert input) = s.setScan (windowDone s c) := by
    rw [State.windowAdd, Window.add_of_complete h.complete]; rfl
  have hconv : s.channelConversion c (convert input) = (s.windowAdd c (convert input)).measurement c m := by
    rw [h.value]; exact if_pos h.complete
  rw [exec_channelConversionEnd h.running, hconv, hwindow]

/-- Settles O43: an open window takes the code. -/
theorem conversionJoinsTheWindow : Obligations.ConversionJoinsTheWindow := by
  intro s c input hheld hopen
  have hconv : s.channelConversion c (convert input) = s.windowAdd c (convert input) := if_neg hopen.ne
  rw [exec_channelConversionEnd hheld, hconv, State.windowAdd, Window.add_of_open hopen]
  rfl

/-! ### The reports (R53, R62, R76) -/

/-- The holder's notice is made alike from two states that share the claim table, the counter, the sessions and the notice
queues, where the channel's holder is the same. -/
theorem withHolderNotice_congr {u : State} {k : Kind} {v : Option Nat} (hh : (u.channel c).holder = (s.channel c).holder)
    (hslots : u.slots = s.slots) (hcounter : u.scan.counter = s.scan.counter) (hsessions : u.sessions = s.sessions)
    (hnotices : u.notices = s.notices) : withHolderNotice u k c v = withHolderNotice s k c v := by
  have hport : u.holderPort c = s.holderPort c := by
    simp only [State.holderPort, hh, State.resolve, State.record, State.slot, hslots]
    rfl
  unfold withHolderNotice withNotice noticeOf
  rw [hport]
  simp only [State.session, State.noticesOf, hh, hcounter, hsessions, hnotices]
  rfl

/-- What the loop's own step makes of a measurement. -/
def Measured (s : State) (c : Channel) (m : Nat) (x : ChannelRecord) (report : LoopReport) : Prop :=
  (s.channel c).measure m (s.holderPort c) = (x, report)

variable {x : ChannelRecord}

theorem Measured.measurement {report : LoopReport} : Measured s c m x report →
    (s.setScan (windowDone s c)).measurement c m =
      (match report with
        | .none => (s.setScan (windowDone s c)).setChannel c x
        | .settled => ((s.setScan (windowDone s c)).setChannel c x).notifyHolder .settled c (some x.drive)
        | .limited => ((s.setScan (windowDone s c)).setChannel c x).notifyHolder .limited c (some m)
        | .idleReached => (((s.setScan (windowDone s c)).setChannel c x).idleReached c).allocationPass
        | .tripped => ((s.setScan (windowDone s c)).setChannel c x).afterTrip (s.channel c) c m) := by
  intro h
  have h' : ((s.setScan (windowDone s c)).channel c).measure m ((s.setScan (windowDone s c)).holderPort c) = (x, report) := h
  unfold State.measurement
  simp only [h']
  rfl

/-- A measurement that makes no report changes its channel alone. -/
theorem Delivers.quiet (h : Delivers s c input m) (hx : Measured s c m x .none) :
    exec (.channelConversionEnd c input) s = .next (afterMeasurement s c x s.notices) := by
  rw [h.exec_eq, hx.measurement]
  rfl

theorem notifyHolder_afterMeasurement (hh : x.holder = (s.channel c).holder) (k : Kind) (v : Option Nat) :
    ((s.setScan (windowDone s c)).setChannel c x).notifyHolder k c v =
      afterMeasurement s c x (withHolderNotice s k c v) := by
  rw [State.notifyHolder_eq, withHolderNotice_congr (s := s)
    (u := (s.setScan (windowDone s c)).setChannel c x) (by rw [State.channel_setChannel_self, hh]) rfl rfl rfl rfl]
  rfl

/-- A measurement that reports LIMITED makes the notice for the holder's port. -/
theorem Delivers.limited (h : Delivers s c input m) (hx : Measured s c m x .limited)
    (hh : x.holder = (s.channel c).holder) :
    exec (.channelConversionEnd c input) s =
      .next (afterMeasurement s c x (withHolderNotice s .limited c (some m))) := by
  rw [h.exec_eq, hx.measurement]
  exact congrArg Host.Outcome.next (notifyHolder_afterMeasurement hh _ _)

/-- A measurement that reports SETTLED makes the notice for the holder's port. -/
theorem Delivers.settled (h : Delivers s c input m) (hx : Measured s c m x .settled)
    (hh : x.holder = (s.channel c).holder) :
    exec (.channelConversionEnd c input) s =
      .next (afterMeasurement s c x (withHolderNotice s .settled c (some x.drive))) := by
  rw [h.exec_eq, hx.measurement]
  exact congrArg Host.Outcome.next (notifyHolder_afterMeasurement hh _ _)

/-- The record on which a state's step works, where the guard does not trip the channel. -/
def ChannelRecord.seen (r : ChannelRecord) (m : Nat) : ChannelRecord := { r with measured := m, strikes := strikesNow r m }

theorem Measured.of_step {report : LoopReport} (hg : (s.channel c).state.guarded = true) (hn : NoTrip (s.channel c) m)
    (h : ((s.channel c).seen m).stateStep m = (x, report)) : Measured s c m x report :=
  (ChannelRecord.measure_of_noTrip _ m _ hg hn).trans h

/-! ### Halving (R55, R56) -/

theorem ChannelRecord.halve_done {r : ChannelRecord} (h : r.hi ≤ r.lo + 1) : r.halve = { r.toTrack with drive := r.hi } :=
  if_pos (by omega)

theorem ChannelRecord.halve_open {r : ChannelRecord} (h : r.lo + 1 < r.hi) :
    r.halve = { r with state := .bisect, drive := (r.lo + r.hi) / 2 } := if_neg (by omega)

/-! ### RAMP (R54) -/

section Ramp
variable {r : ChannelRecord}

theorem ChannelRecord.stateStep_ramp (h : r.state = .ramp) : r.stateStep m = r.rampStep m := by
  unfold ChannelRecord.stateStep; rw [h]

theorem ChannelRecord.rampStep_reached (h : r.target ≤ m) :
    r.rampStep m = (({ r with lo := r.lastBelow, hi := r.drive } : ChannelRecord).halve, .none) := if_pos h

theorem ChannelRecord.rampStep_limited (h : m < r.target) (hc : r.config.ceiling ≤ r.drive) :
    r.rampStep m = ({ r with state := .limited }, .limited) := (if_neg (not_le.mpr h)).trans (if_pos hc)

theorem ChannelRecord.rampStep_climbs (h : m < r.target) (hc : r.drive < r.config.ceiling) :
    r.rampStep m =
      ({ r with lastBelow := r.drive, drive := min (r.drive + r.config.rampStep) r.config.ceiling }, .none) :=
  (if_neg (not_le.mpr h)).trans (if_neg (not_le.mpr hc))

end Ramp

/-- Settles O44: RAMP's step in each of its cases. -/
theorem rampClimbsUntilTheTarget : Obligations.RampClimbsUntilTheTarget := by
  intro s c input m h hst hn r
  have step : ∀ {x report}, r.rampStep m = (x, report) → Measured s c m x report := fun e =>
    .of_step (by rw [hst]; rfl) hn ((ChannelRecord.stateStep_ramp (r := r) hst).trans e)
  refine ⟨fun hlt hroom => ?climbs, fun hlt hceil => ?limited, fun hle hclose => ?tracks, fun hle hopen => ?bisects⟩
  case climbs => exact h.quiet (step (ChannelRecord.rampStep_climbs hlt hroom))
  case limited => exact h.limited (step (ChannelRecord.rampStep_limited hlt hceil.ge)) rfl
  case tracks =>
    refine h.quiet (step ((ChannelRecord.rampStep_reached hle).trans ?_))
    rw [ChannelRecord.halve_done hclose]
    rfl
  case bisects =>
    refine h.quiet (step ((ChannelRecord.rampStep_reached hle).trans ?_))
    rw [ChannelRecord.halve_open hopen]

/-! ### BISECT (R56) -/

theorem ChannelRecord.stateStep_bisect {r : ChannelRecord} (h : r.state = .bisect) : r.stateStep m = r.bisectStep m := by
  unfold ChannelRecord.stateStep; rw [h]

/-- BISECT's step halves the interval that the measurement leaves. -/
theorem ChannelRecord.bisectStep_eq (r : ChannelRecord) :
    r.bisectStep m =
      (({ r with lo := if r.target ≤ m then r.lo else r.drive
                 hi := if r.target ≤ m then r.drive else r.hi } : ChannelRecord).halve, .none) := by
  unfold ChannelRecord.bisectStep
  split <;> simp_all

/-- Settles O45: the interval left, and its halving. -/
theorem bisectHalvesTheInterval : Obligations.BisectHalvesTheInterval := by
  intro s c input m h hst hn r lo hi
  have step : ∀ {x}, ({ r with lo := lo, hi := hi } : ChannelRecord).halve = x → Measured s c m x .none := fun e =>
    .of_step (by rw [hst]; rfl) hn
      ((ChannelRecord.stateStep_bisect (r := r) hst).trans ((ChannelRecord.bisectStep_eq r).trans (congrArg (·, LoopReport.none) e)))
  refine ⟨fun hclose => ?tracks, fun hopen => ?bisects⟩
  case tracks =>
    refine h.quiet (step ?_)
    rw [ChannelRecord.halve_done hclose]
    rfl
  case bisects =>
    refine h.quiet (step ?_)
    rw [ChannelRecord.halve_open hopen, ← hst]

/-! ### TRACK (R57 to R60) -/

section Track
variable {r : ChannelRecord} {d : Direction}

theorem ChannelRecord.stateStep_track (h : r.state = .track) : r.stateStep m = r.trackStep m := by
  unfold ChannelRecord.stateStep; rw [h]

theorem ChannelRecord.trackStep_inBand (hlo : r.target ≤ m + r.config.deadband) (hhi : m ≤ r.target + r.config.deadband) :
    r.trackStep m = if r.settled then (r.clearVotes, .none) else ({ r.clearVotes with settled := true }, .settled) :=
  (if_neg (by omega)).trans (if_neg (by omega))

/-- A measurement outside the band votes for the direction towards it. -/
theorem ChannelRecord.trackStep_outside
    (h : d = .up ∧ m + r.config.deadband < r.target ∨ d = .down ∧ r.target + r.config.deadband < m) :
    r.trackStep m = r.vote d := by
  rcases h with ⟨rfl, h⟩ | ⟨rfl, h⟩
  · exact (if_neg (by omega)).trans (if_pos (by omega))
  · exact if_pos h

theorem ChannelRecord.vote_counts (h : votesNow r d < r.confirm) :
    r.vote d = ({ r with voteDir := d, voteCount := votesNow r d }, .none) := if_neg (not_le.mpr h)

theorem ChannelRecord.vote_completes (h : r.confirm ≤ votesNow r d) : r.vote d = r.clearVotes.adjust d := if_pos h

theorem ChannelRecord.adjust_limited (h : r.config.ceiling ≤ r.drive) :
    r.adjust .up = ({ r with state := .limited }, .limited) := if_pos h

theorem ChannelRecord.adjust_up (h : r.drive < r.config.ceiling) :
    r.adjust .up = ({ r.adapt .up with drive := r.drive + 1 }, .none) := if_neg (not_le.mpr h)

end Track

/-- Settles O46: TRACK's step in the band, and a vote's cases outside it. -/
theorem trackVotesAndAdjusts : Obligations.TrackVotesAndAdjusts := by
  intro s c input m h hst hn r
  have step : ∀ {x report}, r.trackStep m = (x, report) → Measured s c m x report := fun e =>
    .of_step (by rw [hst]; rfl) hn ((ChannelRecord.stateStep_track (r := r) hst).trans e)
  refine ⟨fun hlo hhi => ⟨fun hset => ?again, fun hset => ?settles⟩,
    fun d hd => ⟨fun hlt => ?counts, fun hge hup hceil => ?limited, fun hge hmay => ?adjusts⟩⟩
  case again => exact h.quiet (step ((ChannelRecord.trackStep_inBand hlo hhi).trans (if_pos hset)))
  case settles =>
    exact h.settled (step ((ChannelRecord.trackStep_inBand hlo hhi).trans (if_neg (by rw [hset]; decide)))) rfl
  case counts => exact h.quiet (step ((ChannelRecord.trackStep_outside hd).trans (ChannelRecord.vote_counts hlt)))
  case limited =>
    subst hup
    exact h.limited (step (((ChannelRecord.trackStep_outside hd).trans (ChannelRecord.vote_completes hge)).trans
      (ChannelRecord.adjust_limited (r := r.clearVotes) hceil.ge))) rfl
  case adjusts =>
    refine h.quiet (step (((ChannelRecord.trackStep_outside hd).trans (ChannelRecord.vote_completes hge)).trans ?_))
    rcases hd with ⟨rfl, -⟩ | ⟨rfl, -⟩
    · have hroom : r.drive < r.config.ceiling := hmay.resolve_left nofun
      rw [ChannelRecord.adjust_up (r := r.clearVotes) hroom, ChannelRecord.adapt_eq]
      rfl
    · change (({ r.clearVotes.adapt .down with drive := r.drive - 1 } : ChannelRecord), LoopReport.none) = _
      rw [ChannelRecord.adapt_eq]
      rfl

/-! ### LIMITED and the resting states (R53, R61, R71, R80) -/

theorem ChannelRecord.stateStep_limited {r : ChannelRecord} (h : r.state = .limited) : r.stateStep m = r.limitedStep m := by
  unfold ChannelRecord.stateStep; rw [h]

/-- Settles O47: LIMITED's step by the band, and the states that the guard does not watch. -/
theorem limitedAndRestingChannelsTakeMeasurements : Obligations.LimitedAndRestingChannelsTakeMeasurements := by
  intro s c input m h r
  refine ⟨fun hst hn => ?_, fun hrest => ?rests⟩
  case rests =>
    have hg : (s.channel c).state.guarded = false := by rcases hrest with h | h | h <;> rw [h] <;> rfl
    exact h.quiet (ChannelRecord.measure_of_not_guarded _ m _ hg)
  have step : ∀ {x}, r.limitedStep m = (x, .none) → Measured s c m x .none := fun e =>
    .of_step (by rw [hst]; rfl) hn ((ChannelRecord.stateStep_limited (r := r) hst).trans e)
  exact ⟨fun hin => h.quiet (step (if_pos (by omega))), fun hbelow => h.quiet (step (if_neg (by omega)))⟩

/-! ### RELEASING (R76) -/

theorem ChannelRecord.stateStep_releasing {r : ChannelRecord} (h : r.state = .releasing) :
    r.stateStep m = r.windDownStep := by
  unfold ChannelRecord.stateStep; rw [h]

/-- Settles O48: the down-step above the drive's end, and IDLE REACHED at it. -/
theorem windDownEndsInIdleAndAPass : Obligations.WindDownEndsInIdleAndAPass := by
  intro s c input m h hst hn r
  have step : ∀ {x report}, r.windDownStep = (x, report) → Measured s c m x report := fun e =>
    .of_step (by rw [hst]; rfl) hn ((ChannelRecord.stateStep_releasing (r := r) hst).trans e)
  refine ⟨fun hlt => h.quiet (step (if_pos hlt)), fun hle => ?_⟩
  have hx : Measured s c m r.idled .idleReached := step (if_neg (not_lt.mpr hle))
  rw [h.exec_eq, hx.measurement]
  simp only
  rw [State.idleReached_eq]
  rfl

end Sys2Proof.Machine
end

section
/-! SUPPORT. The end of many grants, one after another, as a session's end and a shedding end them: what it leaves of the
channels, the release amounts and the two sums (R17, R26, R28, R33, R74). -/

namespace Sys2Proof.Machine

/-! ### The end of one grant (R74, R75) -/

section One
variable (s : State) (c : Channel) (amount : Nat)

theorem withGrantEnded_channel :
    (withGrantEnded s c amount).channel c =
      if (s.channel c).state.settling ∧ 0 < (s.channel c).drive then
        { s.channel c with state := .releasing, holder := none, target := amount }
      else (s.channel c).idled := by
  unfold withGrantEnded
  split
  · exact State.channel_setChannel_self s c _
  · exact State.channel_setChannel_self s c _

theorem withGrantEnded_releaseOf :
    (withGrantEnded s c amount).releaseOf c =
      if (s.channel c).state.settling ∧ 0 < (s.channel c).drive then amount else 0 := by
  unfold withGrantEnded
  split
  · exact State.releaseOf_setRelease_self s c _
  · exact State.releaseOf_setRelease_self s c _

theorem withGrantEnded_releasing :
    (withGrantEnded s c amount).budget.releasing =
      s.budget.releasing + if (s.channel c).state.settling ∧ 0 < (s.channel c).drive then amount else 0 := by
  unfold withGrantEnded
  split <;> rfl

/-- RELEASE to a loop concerns its own channel. -/
theorem State.sendRelease_other {d : Channel} (h : d ≠ c) :
    (s.sendRelease c amount).channel d = s.channel d ∧ (s.sendRelease c amount).releaseOf d = s.releaseOf d := by
  refine ⟨?_, ?_⟩
  · rw [State.sendRelease_frame]
    exact State.channel_setChannel_ne s _ h
  · unfold State.sendRelease
    simp only
    split
    · exact (State.releaseOf_setRelease_ne _ 0 h).trans (State.releaseOf_setRelease_ne s amount h)
    · exact State.releaseOf_setRelease_ne s amount h

end One

/-! ### The end of many -/

/-- A number of a slot's record, and 0 of a free slot. -/
def State.ofSlot (s : State) (f : Claim → Nat) (i : Fin 24) : Nat := ((s.record i).map f).getD 0

theorem State.ofSlot_of_record {s : State} {i : Fin 24} {r : Claim} (h : s.record i = some r) (f : Claim → Nat) :
    s.ofSlot f i = f r := by
  rw [State.ofSlot, h]; rfl

/-- No grant has begun. -/
theorem State.not_granted_of_within {t u : State}
    (h : ∀ j q, u.record j = some q → q.state = .granted → t.record j = some q) {i : Fin 24}
    (ht : t.recordIs .granted i = false) : u.recordIs .granted i = false := by
  refine Bool.eq_false_iff.mpr fun hu => ?_
  obtain ⟨q, hq, hg⟩ := (State.recordIs_iff _ _ _).mp hu
  exact Bool.eq_false_iff.mp ht ((State.recordIs_iff _ _ _).mpr ⟨q, h i q hq hg, hg⟩)

/-- The grants of the slots of a list have ended since `s`, in that order: no other grant has begun or moved, each channel
whose grant ended is as that leaves it, and the sums have followed. -/
structure GrantsEnded (s : State) (l : List (Fin 24)) (u : State) : Prop where
  within : ∀ j r, u.record j = some r → r.state = .granted → s.record j = some r
  listed : ∀ i ∈ l, s.recordIs .granted i = true ∧ u.recordIs .granted i = false
  nodup : l.Nodup
  others : ∀ c, (∀ i ∈ l, (s.record i).map Claim.channel ≠ some c) →
    u.channel c = s.channel c ∧ u.releaseOf c = s.releaseOf c
  ended : ∀ i ∈ l, ∀ r, s.record i = some r → HoldsChannel s i r →
    u.channel r.channel = (withGrantEnded s r.channel r.amount).channel r.channel ∧
      u.releaseOf r.channel = (withGrantEnded s r.channel r.amount).releaseOf r.channel
  granted : u.budget.granted = s.budget.granted - (l.map (s.ofSlot Claim.amount)).sum
  releasing : (∀ i ∈ l, ∀ r, s.record i = some r → HoldsChannel s i r) →
    u.budget.releasing = s.budget.releasing + (l.map (s.ofSlot (windDownOf s))).sum

/-- What the end of one more grant makes of the rest of the state. -/
structure EndsGrant (t u : State) (i : Fin 24) (r : Claim) : Prop where
  record : t.record i = some r
  state : r.state = .granted
  channels : u.channels = (t.sendRelease r.channel r.amount).channels
  releases : u.releases = (t.sendRelease r.channel r.amount).releases
  granted : u.budget.granted = t.budget.granted - r.amount
  releasing : u.budget.releasing = (t.sendRelease r.channel r.amount).budget.releasing
  within : ∀ j q, u.record j = some q → q.state = .granted → t.record j = some q
  gone : u.recordIs .granted i = false

section Many
variable {s t u : State} {l : List (Fin 24)}

theorem GrantsEnded.start (s : State) : GrantsEnded s [] s :=
  ⟨fun _ _ h _ => h, nofun, .nil, fun _ _ => ⟨rfl, rfl⟩, nofun, rfl, fun _ => rfl⟩

/-- A step that ends no grant, and moves neither a channel nor a sum. -/
theorem GrantsEnded.quiet (h : GrantsEnded s l t) (hchannels : u.channels = t.channels) (hreleases : u.releases = t.releases)
    (hbudget : u.budget = t.budget) (hwithin : ∀ j q, u.record j = some q → q.state = .granted → t.record j = some q) :
    GrantsEnded s l u where
  within j r hr hg := h.within j r (hwithin j r hr hg) hg
  listed i hi := (h.listed i hi).imp_right (State.not_granted_of_within hwithin)
  nodup := h.nodup
  others c hc := by simpa only [State.channel, State.releaseOf, hchannels, hreleases] using h.others c hc
  ended i hi r hr hh := by simpa only [State.channel, State.releaseOf, hchannels, hreleases] using h.ended i hi r hr hh
  granted := by rw [hbudget]; exact h.granted
  releasing := by rw [hbudget]; exact h.releasing

section Ends
variable {i : Fin 24} {r : Claim}

theorem EndsGrant.other (e : EndsGrant t u i r) {c : Channel} (h : c ≠ r.channel) :
    u.channel c = t.channel c ∧ u.releaseOf c = t.releaseOf c := by
  obtain ⟨h1, h2⟩ := State.sendRelease_other t r.channel r.amount h
  exact ⟨by rw [← h1, State.channel, e.channels]; rfl, by rw [← h2, State.releaseOf, e.releases]; rfl⟩

/-- The channel of the record has not moved, where no other grant is on it. -/
theorem GrantsEnded.channel_unmoved (h : GrantsEnded s l t) (hi : i ∉ l) (hh : HoldsChannel s i r) :
    t.channel r.channel = s.channel r.channel :=
  (h.others r.channel fun j hj => hh.alone j (fun e => hi (e ▸ hj)) (h.listed j hj).1).1

theorem GrantsEnded.not_listed (h : GrantsEnded s l t) (e : EndsGrant t u i r) : i ∉ l := fun hi =>
  Bool.eq_false_iff.mp (h.listed i hi).2 ((State.recordIs_iff _ _ _).mpr ⟨r, e.record, e.state⟩)

/-- The channel as the grant's end leaves it, where no other grant is on it. -/
theorem GrantsEnded.ends_own (h : GrantsEnded s l t) (e : EndsGrant t u i r) (hh : HoldsChannel s i r) :
    u.channel r.channel = (withGrantEnded s r.channel r.amount).channel r.channel ∧
      u.releaseOf r.channel = (withGrantEnded s r.channel r.amount).releaseOf r.channel ∧
      u.budget.releasing = t.budget.releasing + windDownOf s r := by
  have hc := h.channel_unmoved (h.not_listed e) hh
  have hst : (t.channel r.channel).state.grantedState = true := by rw [hc]; exact hh.state
  have hsend := State.sendRelease_eq t r.channel r.amount hst
  refine ⟨?_, ?_, ?_⟩
  · rw [State.channel, e.channels, hsend, withGrantEnded_channel, ← hc]
    exact withGrantEnded_channel t r.channel r.amount
  · rw [State.releaseOf, e.releases, hsend, withGrantEnded_releaseOf, ← hc]
    exact withGrantEnded_releaseOf t r.channel r.amount
  · rw [e.releasing, hsend, withGrantEnded_releasing, hc]
    rfl

theorem GrantsEnded.ends (h : GrantsEnded s l t) (e : EndsGrant t u i r) : GrantsEnded s (l ++ [i]) u := by
  have hs : s.record i = some r := h.within i r e.record e.state
  have hi := h.not_listed e
  refine ⟨fun j q hq hg => h.within j q (e.within j q hq hg) hg, fun j hj => ?listed, ?nodup, fun c hc => ?others,
    fun j hj q hq hh => ?ended, ?granted, fun hall => ?releasing⟩
  case listed =>
    rcases List.mem_append.mp hj with hj | hj
    · exact (h.listed j hj).imp_right (State.not_granted_of_within e.within)
    · obtain rfl := List.mem_singleton.mp hj
      exact ⟨(State.recordIs_iff _ _ _).mpr ⟨r, hs, e.state⟩, e.gone⟩
  case nodup => exact List.nodup_append.mpr ⟨h.nodup, List.nodup_singleton i, fun a ha b hb => by
    obtain rfl := List.mem_singleton.mp hb
    exact fun hab => hi (hab ▸ ha)⟩
  case others =>
    have hne : c ≠ r.channel := by
      rintro rfl
      exact hc i (by simp) (by rw [hs]; rfl)
    obtain ⟨h1, h2⟩ := e.other hne
    obtain ⟨h3, h4⟩ := h.others c fun j hj => hc j (List.mem_append_left _ hj)
    exact ⟨h1.trans h3, h2.trans h4⟩
  case ended =>
    rcases List.mem_append.mp hj with hj | hj
    · have hij : i ≠ j := fun e' => hi (e' ▸ hj)
      have hne : q.channel ≠ r.channel := fun heq =>
        hh.alone i hij ((State.recordIs_iff _ _ _).mpr ⟨r, hs, e.state⟩) (by rw [hs, heq]; rfl)
      obtain ⟨h1, h2⟩ := e.other hne
      obtain ⟨h3, h4⟩ := h.ended j hj q hq hh
      exact ⟨h1.trans h3, h2.trans h4⟩
    · obtain rfl := List.mem_singleton.mp hj
      cases hs.symm.trans hq
      obtain ⟨h1, h2, -⟩ := h.ends_own e hh
      exact ⟨h1, h2⟩
  case granted =>
    rw [e.granted, h.granted, List.map_append, List.sum_append, List.map_singleton, List.sum_singleton,
      State.ofSlot_of_record hs]
    omega
  case releasing =>
    obtain ⟨-, -, h3⟩ := h.ends_own e (hall i (by simp) r hs)
    rw [h3, h.releasing fun j hj => hall j (List.mem_append_left _ hj), List.map_append, List.sum_append,
      List.map_singleton, List.sum_singleton, State.ofSlot_of_record hs]
    omega

end Ends

/-- The sum over the slots of a list without repetitions is the sum over the slots that it lists. -/
theorem sumOver_of_list {chosen : Fin 24 → Bool} (hn : l.Nodup) (hl : ∀ i, i ∈ l ↔ chosen i = true) (f : Claim → Nat) :
    s.sumOver chosen f = (l.map (s.ofSlot f)).sum := by
  have hperm : l.Perm ((List.finRange 24).filter chosen) :=
    (List.perm_ext_iff_of_nodup hn ((List.nodup_finRange 24).filter _)).mpr fun i => by simp [hl]
  have hsum : ∀ m : List (Fin 24), (m.map fun i => if chosen i = true then s.ofSlot f i else 0).sum =
      ((m.filter chosen).map (s.ofSlot f)).sum := by
    intro m
    induction m with
    | nil => rfl
    | cons i m ih =>
      rw [List.map_cons, List.sum_cons, ih, List.filter_cons]
      split <;> simp
  rw [(hperm.map _).sum_eq, ← hsum]
  rfl

end Many

end Sys2Proof.Machine
end

section
/-! SUPPORT. The end of a session, part by part (R17, R111, R123, R139), and the rows that end one: the last tick, CLOSE,
EVICT and a port reset. -/

namespace Sys2Proof.Machine

/-! ### The reclaim (R17) -/

section Reclaim
variable {s t : State} {p : Port} {l : List (Fin 24)}

/-- The freeing of a PENDING record moves neither a channel nor a sum. -/
theorem GrantsEnded.drop_pending (h : GrantsEnded s l t) {i : Fin 24} {r : Claim} (hr : t.record i = some r)
    (hp : r.state = .pending) : GrantsEnded s l (t.dropRecord i) := by
  have hdrop : t.dropRecord i = t.freeSlot i r := by unfold State.dropRecord; simp only [hr, hp]
  rw [hdrop]
  refine h.quiet rfl rfl rfl fun j q hq _ => ?_
  have hslot : (t.freeSlot i r).record j = if j = i then none else t.record j :=
    State.record_of_set (x := ⟨(t.slot i).gen + 1#8, none⟩) rfl j
  rw [hslot] at hq
  split at hq
  · cases hq
  · exact hq

/-- The freeing of a GRANTED record ends its grant. -/
theorem EndsGrant.drop {i : Fin 24} {r : Claim} (hr : t.record i = some r) (hg : r.state = .granted) :
    EndsGrant t (t.dropRecord i) i r := by
  have hdrop : t.dropRecord i = ((t.freeSlot i r).lowerGranted r.amount).sendRelease r.channel r.amount := by
    unfold State.dropRecord; simp only [hr, hg]
  have hslot : ∀ j, (t.dropRecord i).record j = if j = i then none else t.record j := by
    intro j
    rw [State.record, State.slot_dropRecord hr]
    split <;> rfl
  obtain ⟨hc, hrel, hsum⟩ := State.sendRelease_congr (s := t) (u := (t.freeSlot i r).lowerGranted r.amount) rfl rfl rfl
    r.channel r.amount
  refine ⟨hr, hg, hdrop ▸ hc, hdrop ▸ hrel, ?_, hdrop ▸ hsum, fun j q hq _ => ?_, ?_⟩
  · rw [hdrop, State.sendRelease_frame]; rfl
  · rw [hslot] at hq
    split at hq
    · cases hq
    · exact hq
  · rw [State.recordIs, hslot, if_pos rfl]

/-- The freeing of a port's records over a list of slots that no step has touched ends their grants. -/
theorem GrantsEnded.dropsOf (h : GrantsEnded s l t) {rest : List (Fin 24)} (hn : rest.Nodup)
    (hrest : ∀ i ∈ rest, t.slot i = s.slot i) :
    GrantsEnded s (l ++ rest.filter (s.grantedTo p)) (t.dropsOf p rest) := by
  induction rest generalizing l t with
  | nil => simpa [State.dropsOf] using h
  | cons i rest ih =>
    obtain ⟨hi, hn⟩ := List.nodup_cons.mp hn
    have hrec : t.record i = s.record i := congrArg Slot.record (hrest i (by simp))
    by_cases hp : (t.record i).map Claim.port = some p
    · obtain ⟨r, hr, hrp⟩ := Option.map_eq_some_iff.mp hp
      have hkept : ∀ j ∈ rest, (t.dropRecord i).slot j = s.slot j := fun j hj => by
        rw [State.slot_dropRecord_ne t (fun e : j = i => hi (e ▸ hj))]
        exact hrest j (List.mem_cons_of_mem _ hj)
      rw [State.dropsOf_cons_of_port rest hp]
      cases hst : r.state with
      | pending =>
        have hno : s.grantedTo p i = false := by
          rw [State.grantedTo, State.recordIs, ← hrec, hr]
          simp [hst]
        rw [List.filter_cons_of_neg (by rw [hno]; decide)]
        exact ih (h.drop_pending hr hst) hn hkept
      | granted =>
        have hyes : s.grantedTo p i = true := by
          rw [State.grantedTo, State.recordIs, ← hrec, hr]
          simp [hst, hrp]
        rw [List.filter_cons_of_pos hyes, List.append_cons]
        exact ih (h.ends (.drop hr hst)) hn hkept
    · have hno : s.grantedTo p i = false := by
        rw [State.grantedTo, ← hrec, decide_eq_false hp, Bool.and_false]
      rw [State.dropsOf_cons_of_other rest hp, List.filter_cons_of_neg (by rw [hno]; decide)]
      exact ih h hn fun j hj => hrest j (List.mem_cons_of_mem _ hj)

theorem State.count_dropRecord {i : Fin 24} {r : Claim} (hr : t.record i = some r) (q : Port) :
    (t.dropRecord i).count q = if q = r.port then t.count q - 1 else t.count q := by
  have hcount : (t.freeSlot i r).count q = if q = r.port then t.count q - 1 else t.count q := by
    refine (State.count_setCount _ _ _ _).trans ?_
    split
    · next e => rw [e]
    · rfl
  rw [← hcount]
  unfold State.dropRecord
  simp only [hr]
  cases r.state with
  | pending => rfl
  | granted =>
    simp only
    rw [State.sendRelease_frame]
    rfl

/-- Each record freed counts once for its port, and for no other port. -/
theorem State.count_dropsOf (t : State) {rest : List (Fin 24)} (hn : rest.Nodup) :
    (t.dropsOf p rest).count p = t.count p - (rest.filter fun i => decide ((t.record i).map Claim.port = some p)).length ∧
      ∀ q, q ≠ p → (t.dropsOf p rest).count q = t.count q := by
  induction rest generalizing t with
  | nil => exact ⟨rfl, fun _ _ => rfl⟩
  | cons i rest ih =>
    obtain ⟨hi, hn⟩ := List.nodup_cons.mp hn
    by_cases hp : (t.record i).map Claim.port = some p
    · obtain ⟨r, hr, rfl⟩ := Option.map_eq_some_iff.mp hp
      have hfilter : (rest.filter fun j => decide (((t.dropRecord i).record j).map Claim.port = some r.port)) =
          rest.filter fun j => decide ((t.record j).map Claim.port = some r.port) :=
        List.filter_congr fun j hj => by
          rw [State.record, State.slot_dropRecord_ne t (fun e : j = i => hi (e ▸ hj))]; rfl
      obtain ⟨h1, h2⟩ := ih (t.dropRecord i) hn
      rw [State.dropsOf_cons_of_port rest hp, List.filter_cons_of_pos (by rw [decide_eq_true hp]), List.length_cons, h1, hfilter,
        State.count_dropRecord hr, if_pos rfl]
      refine ⟨by omega, fun q hq => ?_⟩
      rw [h2 q hq, State.count_dropRecord hr, if_neg hq]
    · rw [State.dropsOf_cons_of_other rest hp, List.filter_cons_of_neg (by rw [decide_eq_false hp]; decide)]
      exact ih t hn

theorem State.dropsOf_frame (s : State) (p : Port) (l : List (Fin 24)) :
    s.dropsOf p l =
      { s with
        slots := (s.dropsOf p l).slots, counts := (s.dropsOf p l).counts, channels := (s.dropsOf p l).channels
        releases := (s.dropsOf p l).releases
        budget := { s.budget with granted := (s.dropsOf p l).budget.granted
                                  releasing := (s.dropsOf p l).budget.releasing } } := by
  refine State.dropsOf_induction
    (P := fun t => t = { s with slots := t.slots, counts := t.counts, channels := t.channels, releases := t.releases
                                budget := { s.budget with granted := t.budget.granted
                                                          releasing := t.budget.releasing } }) p ?_ s l rfl
  intro t i r h _ _
  rw [State.dropRecord_frame]
  simp only
  rw [h]

/-- What the reclaim of a session's end leaves before its pass. -/
theorem ClaimsReclaimed.of_dropsOf (s : State) (p : Port) : ClaimsReclaimed s (s.dropsOf p allSlots) p := by
  have hended : GrantsEnded s (allSlots.filter (s.grantedTo p)) (s.dropsOf p allSlots) :=
    (GrantsEnded.start s).dropsOf (List.nodup_finRange 24) fun _ _ => rfl
  have hmem : ∀ i, i ∈ allSlots.filter (s.grantedTo p) ↔ s.grantedTo p i = true := fun i => by simp
  have hsum := fun f => sumOver_of_list (s := s) hended.nodup hmem f
  obtain ⟨hcount, hcounts⟩ := s.count_dropsOf (p := p) (List.nodup_finRange 24)
  refine ⟨fun i => ?_, hcount, hcounts, fun i r hr hp hg hh => ?_, fun c hc => ?_, ?_, fun hall => ?_, s.dropsOf_frame p allSlots⟩
  · rw [State.slot_dropsOf]
    simp only [mem_allSlots, true_and]
  · refine hended.ended i ((hmem i).mpr ?_) r hr hh
    rw [State.grantedTo, State.recordIs, hr]
    simp [hg, hp]
  · exact hended.others c fun i hi => hc i ((hmem i).mp hi)
  · rw [hsum]; exact hended.granted
  · rw [hsum]; exact hended.releasing fun i hi r hr => hall i r hr ((hmem i).mp hi)

end Reclaim

/-! ### The whole of a session's end (R111, R123, R139) -/

section Whole
variable (s : State) (p : Port) (result : SessionState)

theorem State.session_reclaim (q : Port) : (s.reclaim p).session q = s.session q := by
  rw [State.session, State.reclaim_frame]; rfl

/-- The fall of the soft bit after the reclaim, as `sessionEnd` writes it. -/
theorem State.clearSoft_reclaim :
    (s.reclaim p).clearSoft p =
      if (s.session p).soft = true then
        State.inputEvent { s.reclaim p with sessions := s.sessions.set p { s.session p with soft := false } } (.soft p) false
      else s.reclaim p := by
  have hsessions : (s.reclaim p).sessions = s.sessions := by rw [State.reclaim_frame]
  unfold State.clearSoft
  rw [State.session_reclaim, State.setSession, hsessions]

theorem State.endSession_eq : s.endSession p result = sessionEnd s (s.dropsOf p allSlots) p result := by
  have hsessions : ((s.reclaim p).clearSoft p).sessions = s.sessions.set p { s.session p with soft := false } := by
    rw [State.clearSoft_frame, State.session_reclaim, State.reclaim_frame]
  have hses : ((s.reclaim p).clearSoft p).session p = { s.session p with soft := false } := by
    rw [State.session, hsessions, PerPort.get_set_self]
  unfold State.endSession sessionEnd
  simp only
  rw [← State.reclaim_eq, ← State.clearSoft_reclaim]
  generalize (s.reclaim p).clearSoft p = u at hsessions hses ⊢
  have hset : (u.emptyNotices p).setSession p (((u.emptyNotices p).session p).ended result) =
      { u with notices := u.notices.set p NoticeQueue.reset, sessions := u.sessions.set p ((u.session p).ended result) } := rfl
  rw [hset, hses, hsessions, PerPort.set_set]
  rfl

end Whole

/-! ### What it leaves of the channels' configurations and trip owners -/

/-- The configuration and the trip owner of a channel, which the ends of grants, grants and holds leave alone. -/
def State.configOf (s : State) (c : Channel) : ChannelConfig × Option Port := ((s.channel c).config, (s.channel c).tripOwner)

theorem State.configOf_dropRecord (s : State) (i : Fin 24) (c : Channel) : (s.dropRecord i).configOf c = s.configOf c := by
  unfold State.dropRecord
  cases s.record i with
  | none => rfl
  | some r =>
    cases h : r.state with
    | pending => simp only [h]; rfl
    | granted =>
      obtain ⟨hconfig, -, -, howner, -⟩ := (s.channel r.channel).release_keeps r.amount
      simp only [h]
      rw [State.sendRelease_frame]
      by_cases hc : c = r.channel
      · subst hc
        refine (Prod.ext ?_ ?_ : _ = (_, _))
        · exact (congrArg ChannelRecord.config (State.channel_setChannel_self s r.channel _)).trans hconfig
        · exact (congrArg ChannelRecord.tripOwner (State.channel_setChannel_self s r.channel _)).trans howner
      · have hne : (s.setChannel r.channel ((s.channel r.channel).release r.amount)).channel c = s.channel c :=
          State.channel_setChannel_ne s _ hc
        exact congrArg (fun x : ChannelRecord => (x.config, x.tripOwner)) hne

theorem State.configOf_grantSlot (s : State) (i : Fin 24) (r : Claim) (c : Channel) :
    (s.grantSlot i r).configOf c = s.configOf c := by
  obtain ⟨hconfig, -, -, howner, -⟩ := (s.channel r.channel).grant_keeps (s.handleAt i) r.amount
  have hchannel : (s.grantSlot i r).channel c =
      if c = r.channel then (s.channel r.channel).grant (s.handleAt i) r.amount else s.channel c := by
    rw [State.grantSlot_eq]; exact State.channel_setChannel s r.channel c _
  unfold State.configOf
  rw [hchannel]
  split
  · next h => rw [hconfig, howner, h]
  · rfl

theorem State.configOf_allocationPass (s : State) (c : Channel) : s.allocationPass.configOf c = s.configOf c :=
  State.allocationPass_induction (P := fun t => t.configOf c = s.configOf c)
    (fun t i r h _ _ _ _ => (t.configOf_grantSlot i r c).trans h) s rfl

theorem State.configOf_reclaim (s : State) (p : Port) (c : Channel) : (s.reclaim p).configOf c = s.configOf c :=
  State.reclaim_induction (P := fun t => t.configOf c = s.configOf c) p
    (fun t i _ h _ _ => (t.configOf_dropRecord i c).trans h)
    (fun t i r h _ _ _ _ => (t.configOf_grantSlot i r c).trans h) s rfl

theorem ChannelRecord.withHold_keeps (r : ChannelRecord) (held : Bool) :
    (r.withHold held).config = r.config ∧ (r.withHold held).tripOwner = r.tripOwner := by
  unfold ChannelRecord.withHold
  split
  · exact ⟨rfl, rfl⟩
  · split
    · exact ⟨r.whenHeld_keeps.1, r.whenHeld_keeps.2.2.2.1⟩
    · exact ⟨r.whenResumed_keeps.1, r.whenResumed_keeps.2.2.2.1⟩

theorem State.configOf_tripAction (s : State) (after : Vector Group 4) (c : Channel) :
    (s.tripAction after).configOf c = s.configOf c := by
  have hput : (s.putGroups after).configOf c = s.configOf c := by
    unfold State.configOf
    rw [State.putGroups_channel]
    obtain ⟨h1, h2⟩ := (s.channel c).withHold_keeps (heldBy after c)
    rw [h1, h2]
  unfold State.tripAction
  split
  · rw [State.configOf_allocationPass, hput]
  · exact hput

theorem State.configOf_clearSoft (s : State) (p : Port) (c : Channel) : (s.clearSoft p).configOf c = s.configOf c := by
  unfold State.clearSoft
  split
  · exact State.configOf_tripAction _ _ c
  · rfl

/-! ### The end of a session, field by field -/

section Ended
variable (s : State) (p : Port) (result : SessionState)

theorem State.configOf_endSession (c : Channel) : (s.endSession p result).configOf c = s.configOf c :=
  ((s.reclaim p).configOf_clearSoft p c).trans (s.configOf_reclaim p c)

theorem State.trip_endSession : (s.endSession p result).trip = ((s.reclaim p).clearSoft p).trip := rfl

theorem State.count_endSession (q : Port) : (s.endSession p result).count q = (s.dropsOf p allSlots).count q := by
  have hclear : ((s.reclaim p).clearSoft p).counts = (s.reclaim p).counts := by rw [State.clearSoft_frame]
  have hpass : (s.reclaim p).counts = (s.dropsOf p allSlots).counts := by rw [State.reclaim_eq, State.allocationPass_frame]
  exact congrArg (fun x : PerPort Nat => x.get q) (hclear.trans hpass)

variable {s p}

/-- The end of the soft bit frees no record and begins none but by a grant. -/
theorem State.clearSoft_slot (t : State) (p : Port) (i : Fin 24) :
    ((t.clearSoft p).slot i).gen = (t.slot i).gen ∧
      ((t.clearSoft p).record i = t.record i ∨
        ∃ r, t.record i = some r ∧ r.state = .pending ∧ (t.clearSoft p).record i = some { r with state := .granted }) := by
  unfold State.clearSoft
  split
  · exact State.inputEvent_slot (t.setSession p { t.session p with soft := false }) (.soft p) false i
  · exact ⟨rfl, .inl rfl⟩

/-- The slot of a record of the port is free at its next generation (R2, R17). -/
theorem State.slot_endSession_of_own {i : Fin 24} (h : (s.record i).map Claim.port = some p) :
    (s.endSession p result).slot i = ⟨(s.slot i).gen + 1#8, none⟩ := by
  have hdrop : (s.dropsOf p allSlots).slot i = ⟨(s.slot i).gen + 1#8, none⟩ := by
    rw [State.slot_dropsOf, if_pos ⟨mem_allSlots i, h⟩]
  have keeps : ∀ {t u : State}, t.slot i = ⟨(s.slot i).gen + 1#8, none⟩ → (u.slot i).gen = (t.slot i).gen →
      (u.record i = t.record i ∨
        ∃ r, t.record i = some r ∧ r.state = .pending ∧ u.record i = some { r with state := .granted }) →
      u.slot i = ⟨(s.slot i).gen + 1#8, none⟩ := by
    intro t u ht hgen hrec
    have hnone : t.record i = none := congrArg Slot.record ht
    have hrec : u.record i = none := by
      rcases hrec with h | ⟨r, h, -⟩
      · rw [h, hnone]
      · cases hnone.symm.trans h
    have hgen : (u.slot i).gen = (s.slot i).gen + 1#8 := by rw [hgen, ht]
    calc u.slot i = ⟨(u.slot i).gen, u.record i⟩ := rfl
      _ = _ := by rw [hgen, hrec]
  obtain ⟨hgen, hrec⟩ := (s.dropsOf p allSlots).allocationPass_slot i
  obtain ⟨hgen', hrec'⟩ := (s.reclaim p).clearSoft_slot p i
  exact keeps (keeps hdrop hgen hrec) hgen' hrec'

/-- Every other slot keeps its generation, and its record up to a grant. -/
theorem State.slot_endSession_of_other {i : Fin 24} (h : (s.record i).map Claim.port ≠ some p) :
    ((s.endSession p result).slot i).gen = (s.slot i).gen ∧
      ((s.endSession p result).record i).map Claim.upToState = (s.record i).map Claim.upToState := by
  obtain ⟨hgen, hrec⟩ := s.reclaim_slot_of_other p i fun r hr hp => h (by rw [hr, ← hp]; rfl)
  obtain ⟨hgen', hrec'⟩ := (s.reclaim p).clearSoft_slot p i
  refine ⟨hgen'.trans hgen, Eq.trans ?_ hrec⟩
  change (((s.reclaim p).clearSoft p).record i).map Claim.upToState = _
  rcases hrec' with h | ⟨r, hr, -, h⟩
  · rw [h]
  · rw [h, hr]; rfl

theorem State.trip_inputEvent (t : State) (i : TripInput) (v : Bool) :
    (t.inputEvent i v).trip =
      { t.trip with inputs := setInput t.trip.inputs i v, groups := (t.recordInput i v).settledGroups
                    fault := someGroupHolds (t.recordInput i v).settledGroups } :=
  congrArg State.trip (t.inputEvent_frame i v)

/-- An input event leaves of the trip unit what it makes of it. -/
theorem State.trip_inputEvent_congr {t u : State} (h : u.trip = t.trip) (i : TripInput) (v : Bool) :
    (u.inputEvent i v).trip = (t.inputEvent i v).trip := by
  have hgroups : (u.recordInput i v).settledGroups = (t.recordInput i v).settledGroups := by
    simp only [State.settledGroups, State.recordInput, State.setTrip, State.group, h]
  rw [State.trip_inputEvent, State.trip_inputEvent, hgroups, h]

/-- Without a set soft bit the trip unit is as it was. -/
theorem State.trip_endSession_of_clear (h : (s.session p).soft = false) : (s.endSession p result).trip = s.trip := by
  have hsoft : ¬ ((s.reclaim p).session p).soft = true := by rw [State.session_reclaim, h]; decide
  rw [State.trip_endSession, State.clearSoft, if_neg hsoft, State.reclaim_frame]

/-- The fall of a set soft bit is an input event, which the groups and FAULT follow (R105, R111). -/
theorem State.trip_endSession_of_set (h : (s.session p).soft = true) :
    (s.endSession p result).trip = (s.inputEvent (.soft p) false).trip := by
  have hsoft : ((s.reclaim p).session p).soft = true := by rw [State.session_reclaim, h]
  rw [State.trip_endSession, State.clearSoft, if_pos hsoft]
  refine State.trip_inputEvent_congr ?_ _ _
  rw [State.setSession_trip, State.reclaim_frame]

/-- The end of an OPEN session, as the statements speak of it. -/
theorem SessionEnded.of_endSession : SessionEnded s (s.endSession p result) p result where
  whole := ⟨_, .of_dropsOf s p, s.endSession_eq p result⟩
  session := by rw [State.endSession_frame]
  notices := by
    rw [State.endSession_frame]
    exact PerPort.get_set_self ..
  freed _ h := State.slot_endSession_of_own result h
  kept _ h := State.slot_endSession_of_other result h
  count h := by rw [State.count_endSession, (ClaimsReclaimed.of_dropsOf s p).count, h, Nat.sub_self]
  counts q h := by rw [State.count_endSession, (ClaimsReclaimed.of_dropsOf s p).counts q h]
  config c := Prod.ext_iff.mp (s.configOf_endSession p result c)
  softClear h := State.trip_endSession_of_clear result h
  softSet h := by
    have htrip := State.trip_endSession_of_set (result := result) h
    refine ⟨fun j => ?_, fun g => ?_, ?_⟩
    · rw [State.input, htrip]
      exact s.input_inputEvent (.soft p) j false
    · rw [State.group, htrip, State.inputEvent_frame]
      exact congrArg Group.state ((s.recordInput (.soft p) false).group_settledGroups g)
    · rw [htrip, State.inputEvent_frame]
  groups := by rw [State.endSession_frame]
  groupConfig g := by
    cases hsoft : (s.session p).soft with
    | false =>
      rw [State.group, State.trip_endSession_of_clear result hsoft]
      exact ⟨rfl, rfl, rfl⟩
    | true =>
      have hg : (s.endSession p result).group g = (s.recordInput (.soft p) false).settledGroups[g] := by
        rw [State.group, State.trip_endSession_of_set result hsoft, State.inputEvent_frame]
      rw [hg, State.group_settledGroups]
      exact ⟨rfl, rfl, rfl⟩
  budget := by rw [State.endSession_frame]
  rest := by rw [State.endSession_frame]

end Ended

/-! ### The rows that end a session -/

/-- A session that lapses, with its port's waiting command discarded, computed with another port's command taken. -/
theorem State.lapse_takeFrom (s : State) {p q : Port} (h : q ≠ p) :
    (s.takeFrom p).lapse q =
      { (s.endSession q .lapsed).onto (s.takeFrom p) with
        ports := (s.takeFrom p).ports.set q (waitingDiscarded (s.port q)) } := by
  have hport : (s.takeFrom p).port q = s.port q := PerPort.get_set_ne _ _ h
  rw [State.lapse_eq, hport]
  exact congrArg (fun t : State => { t with ports := (s.takeFrom p).ports.set q (waitingDiscarded (s.port q)) })
    (s.endSession_onto (s.takeFrom p) q .lapsed)

/-- The answer of a command that also changed another port's slots (R125, R151). -/
theorem answer_onto_withPort {s u : State} {p q : Port} (h : q ≠ p) (c : Command) (y : PortState) (out : Reply)
    (hu : u = u.onto s) :
    answer p c ({ u.onto (s.takeFrom p) with ports := (s.takeFrom p).ports.set q y }, out) =
      State.answered { u with ports := s.ports.set q y } p c out.status out.payload := by
  rw [hu]
  simp only [answer, State.answered, State.takeFrom, State.writeResponse, State.setPort, PortState.write, State.onto, State.port,
    PerPort.get_set_ne _ _ h.symm, PerPort.get_set_self, PerPort.set_comm _ _ _ h, PerPort.set_set]

/-- Settles O30: a time remaining of 1 is read by the last tick alone, and the end of the session overwrites it. -/
theorem expiryEndsTheSession : Obligations.ExpiryEndsTheSession := by
  intro s p ho hr
  have hopen := (State.isOpen_iff s p).mpr ho
  have htick : s.tick p = { s.endSession p .lapsed with ports := s.ports.set p (waitingDiscarded (s.port p)) } := by
    rw [State.tick_eq, hr, if_pos rfl, ← s.lapse_eq p]
    exact s.lapse_withRemaining p _
  exact ⟨s.endSession p .lapsed, .of_endSession .lapsed,
    congrArg Host.Outcome.next ((if_pos ⟨hopen, hr.le⟩).trans htick), congrArg Host.Outcome.next ((if_pos hopen).trans htick)⟩

/-- Settles O31: CLOSE ends the session as it stands; EVICT is carried out with the command of its sender, another port,
taken. -/
theorem closeAndEvictEndSessions : Obligations.CloseAndEvictEndSessions := by
  intro s p c
  refine ⟨fun h he => ⟨s.endSession p .closed, congrArg Host.Outcome.next ?close, .of_endSession .closed⟩,
    fun h q hd => ⟨fun hq ho => ⟨s.endSession q .lapsed, .of_endSession .lapsed, congrArg Host.Outcome.next ?evict⟩,
      fun hno => congrArg Host.Outcome.next ?refused⟩⟩
  case close => exact State.execute_own_of_onto h (noOperands_of_nil he) (.inl rfl) (closeOwn_onto p ())
  case evict =>
    have hown : evictOwn p q (s.takeFrom p) = ((s.takeFrom p).lapse q, .done) :=
      (if_neg hq).trans (if_pos ((State.isOpen_iff s q).mpr ho))
    have hcarried : State.carryOut portOperand .openOnly true evictOwn (s.takeFrom p) p c.payload =
        ((s.takeFrom p).lapse q, .done) :=
      (State.carryOut_own (s := s.takeFrom p) hd (.inr h.opened) (.inr h.supervisor)).trans hown
    rw [State.execute_of_takes h.taken h.opcode, hcarried, s.lapse_takeFrom hq]
    exact answer_onto_withPort hq c _ .done (by rw [State.endSession_frame]; rfl)
  case refused =>
    refine State.execute_own_refuses h.taken h.opcode hd (.inr h.opened) (.inr h.supervisor) ?_
    rcases hno with rfl | hno
    · exact if_pos rfl
    · have hclosed : ¬ (s.takeFrom p).isOpen q = true := fun h => hno ((State.isOpen_iff s q).mp h)
      unfold evictOwn
      rw [if_neg hclosed, ite_self]

/-- A port reset, where the port has just recorded what it shifted out. -/
theorem State.resetPort_withPort (s : State) (p : Port) (y : PortState) :
    (withPort s p y).resetPort p =
      match (s.session p).state with
      | .opened => withPort (s.endSession p .closed) p y.emptied
      | .lapsed =>
        { s with ports := s.ports.set p y.emptied
                 notices := s.notices.set p NoticeQueue.reset
                 sessions := s.sessions.set p { s.session p with state := .closed } }
      | .closed => withPort s p y.emptied := by
  have hport : (withPort s p y).port p = y := port_withPort s p y
  have hsession : (withPort s p y).session p = s.session p := rfl
  rw [State.resetPort_eq, hport, hsession]
  cases (s.session p).state with
  | opened =>
    have hend : (withPort s p y).endSession p .closed = withPort (s.endSession p .closed) p y :=
      (s.endSession_onto (withPort s p y) p .closed).trans (by rw [State.endSession_frame]; rfl)
    have hports : (s.endSession p .closed).ports = s.ports := by rw [State.endSession_frame]
    have hset : (withPort s p y).ports.set p y.emptied = (s.endSession p .closed).ports.set p y.emptied := by
      rw [hports]; exact PerPort.set_set ..
    simp only [hend, hset]
    rfl
  | lapsed => simp only [withPort, PerPort.set_set]
  | closed => exact withPort_withPort s p y y.emptied

/-- The transaction that is a port reset, whole or at its end. -/
theorem State.stretch_of_endsPortReset {s : State} {p : Port} {part : Stretch} {bytes out : List Byte} (hl : Listens s p)
    (h : EndsPortReset s p part bytes out) :
    s.stretch p 0xA9#8 part bytes =
      (withPort s p { s.port p with transaction := none, dataOut := out }).resetPort p := by
  rcases h with ⟨ht, rfl, rfl, rfl⟩ | ⟨ht, rfl, rfl, rfl⟩
  · rw [State.stretch_whole hl ht (.inl rfl) (by decide), State.takeReceived_portReset,
      State.bytesOut_plain (by decide) (by decide), statusThenZeros_cons, ← ht]
  · obtain ⟨x, hx, hr⟩ := Option.map_eq_some_iff.mp ht
    rw [State.stretch_last_nil hl hx (.inl (by rw [hr]; rfl)), hr, State.takeReceived_portReset]

/-- Settles O22: the port's rules for the code byte 0xA9. -/
theorem portResetEmptiesAndCloses : Obligations.PortResetEmptiesAndCloses := by
  intro s p hl
  refine ⟨fun part bytes out h => ?taken, fun ht => congrArg Host.Outcome.next (State.stretch_first_nil hl ht _),
    fun more => ⟨fun ht => ⟨fun hm => congrArg Host.Outcome.next ?whole, congrArg Host.Outcome.next ?first⟩,
      fun shown ht hm => congrArg Host.Outcome.next ?last⟩⟩
  case taken =>
    have hexec : exec (.portReset p part bytes) s =
        .next ((withPort s p { s.port p with transaction := none, dataOut := out }).resetPort p) :=
      congrArg Host.Outcome.next (State.stretch_of_endsPortReset hl h)
    rw [hexec, State.resetPort_withPort]
    refine ⟨fun ho => ?_, fun ho => ?_, fun ho => ?_⟩
    · rw [ho]
      exact ⟨_, rfl, .of_endSession .closed⟩
    · rw [ho]; rfl
    · rw [ho]; rfl
  case whole =>
    rw [State.stretch_whole hl ht (.inl rfl) (by decide), State.takeReceived_other (by simp) (by simpa using hm),
      State.bytesOut_plain (by decide) (by decide), statusThenZeros_cons]
  case first =>
    rw [State.stretch_eq_run hl (State.receivedSoFar_of_none ht) (.inl rfl)]
    change (s.select p).clockBytes p (0xA9#8 :: more) = _
    rw [State.select_of_none ht, State.clockBytes_of_first (by rw [port_withPort]) (by decide), port_withPort, withPort_withPort,
      State.bytesOut_plain (by decide) (by decide), statusThenZeros_cons]
    rfl
  case last =>
    rw [State.stretch_last_nil hl ht (.inl rfl), State.takeReceived_other (by simp) (by simpa using hm)]

end Sys2Proof.Machine
end

section
/-! SUPPORT. The notices of a claim's grant and shedding, and what an allocation pass leaves (R30, R31). -/

namespace Sys2Proof.Machine

/-! ### Notices one after another (R134) -/

section Notices
variable {s t u : State} {k : Kind} {value : Claim → Option Nat} {l : List (Fin 24)}

theorem claimNotices_append {i : Fin 24} {r : Claim} (hr : s.record i = some r) (q : Port) :
    claimNotices s k value (l ++ [i]) q =
      claimNotices s k value l q ++
        if r.port = q then [noticeOf s k r.channel (some (s.handleAt i)) (value r)] else [] := by
  unfold claimNotices
  rw [List.filterMap_append, List.filterMap_cons, List.filterMap_nil, hr]
  by_cases h : r.port = q
  · rw [if_pos h]; simp only [h, if_true]; rfl
  · rw [if_neg h]; simp only [h, if_false]

/-- One more notice after those of a list. -/
theorem State.noticesAfter_withNotice {q p : Port} {l : List Notice} {n : Notice} (h : t.noticesOf q = s.noticesAfter q l)
    (hs : t.sessions = s.sessions) (hu : u.notices = withNotice t p n) :
    u.noticesOf q = s.noticesAfter q (l ++ if p = q then [n] else []) := by
  have hsession : t.session p = s.session p := congrArg (·.get p) hs
  rw [State.noticesOf, hu, withNotice, hsession]
  by_cases e : p = q
  · subst e
    rw [if_pos rfl]
    by_cases ho : (s.session p).state = .opened
    · rw [if_pos ho, PerPort.get_set_self, h]
      simp [State.noticesAfter, ho]
    · rw [if_neg ho]
      exact h.trans (by simp [State.noticesAfter, ho])
  · rw [if_neg e, List.append_nil, ← h]
    split
    · exact PerPort.get_set_ne _ _ (Ne.symm e)
    · rfl

end Notices

/-! ### The grants of a pass (R31) -/

/-- A slot whose record has been granted. -/
def State.grantedSlot (s : State) (i : Fin 24) : Slot :=
  ⟨(s.slot i).gen, (s.record i).map fun r => { r with state := .granted }⟩

/-- The PENDING record of a slot, which was granted since `s` to a channel that was free. -/
structure GrantBegun (s t : State) (i : Fin 24) (r : Claim) : Prop where
  record : s.record i = some r
  pending : r.state = .pending
  idle : (s.channel r.channel).state = .idle
  amount : r.amount ≤ s.budget.effective
  channel : t.channel r.channel = (s.channel r.channel).grant (s.handleAt i) r.amount

/-- The slots of a list have been granted since `s`, in that order, and nothing else has happened. -/
structure GrantsBegun (s : State) (l : List (Fin 24)) (t : State) : Prop where
  slot : ∀ i, t.slot i = if i ∈ l then s.grantedSlot i else s.slot i
  begun : ∀ i ∈ l, ∃ r, GrantBegun s t i r
  others : ∀ c, (∀ i ∈ l, (s.record i).map Claim.channel ≠ some c) → t.channel c = s.channel c
  headroom : l ≠ [] → 0 ≤ t.headroom
  notices : ∀ q, t.noticesOf q = s.noticesAfter q (claimNotices s .granted (fun r => some r.amount) l q)
  rest : t = { s with slots := t.slots, channels := t.channels, notices := t.notices
                      budget := { s.budget with granted := t.budget.granted } }

section Begun
variable {s t : State} {l : List (Fin 24)}

theorem ChannelRecord.grant_state (r : ChannelRecord) (h : Handle) (amount : Nat) :
    (r.grant h amount).state = if r.hold then .held else .ramp := by
  unfold ChannelRecord.grant
  simp only
  split <;> rfl

theorem ChannelRecord.grant_not_idle (r : ChannelRecord) (h : Handle) (amount : Nat) : (r.grant h amount).state ≠ .idle := by
  rw [ChannelRecord.grant_state]
  split <;> decide

theorem State.grantSlot_slot (t : State) (i : Fin 24) (r : Claim) (j : Fin 24) :
    (t.grantSlot i r).slot j = if j = i then ⟨(t.slot i).gen, some { r with state := .granted }⟩ else t.slot j := by
  rw [State.grantSlot_eq]; exact State.slot_setSlot t i j _

theorem State.grantSlot_channel (t : State) (i : Fin 24) (r : Claim) (c : Channel) :
    (t.grantSlot i r).channel c =
      if c = r.channel then (t.channel r.channel).grant (t.handleAt i) r.amount else t.channel c := by
  rw [State.grantSlot_eq]; exact State.channel_setChannel t r.channel c _

theorem State.grantSlot_headroom (t : State) (i : Fin 24) (r : Claim) :
    (t.grantSlot i r).headroom = t.headroom - r.amount := by
  rw [State.grantSlot_eq]
  simp only [State.headroom]
  omega

theorem GrantsBegun.start (s : State) : GrantsBegun s [] s :=
  ⟨fun _ => rfl, nofun, fun _ _ => rfl, nofun, fun q => by simp [State.noticesAfter, claimNotices], rfl⟩

theorem GrantsBegun.effective (h : GrantsBegun s l t) : t.budget.effective = s.budget.effective := by rw [h.rest]

/-- A PENDING record now was one at the start, and its slot is none of those granted. -/
theorem GrantsBegun.pending (h : GrantsBegun s l t) {i : Fin 24} {r : Claim} (hr : t.record i = some r)
    (hp : r.state = .pending) : i ∉ l ∧ s.slot i = t.slot i ∧ s.record i = some r := by
  have hslot := h.slot i
  by_cases hi : i ∈ l
  · rw [if_pos hi] at hslot
    have hrec : t.record i = (s.record i).map fun r => { r with state := .granted } := congrArg Slot.record hslot
    rw [hr] at hrec
    obtain ⟨q, -, rfl⟩ := Option.map_eq_some_iff.mp hrec.symm
    cases hp
  · rw [if_neg hi] at hslot
    exact ⟨hi, hslot.symm, by rw [← hr, State.record, State.record, hslot]⟩

/-- A free channel has none of the grants. -/
theorem GrantsBegun.channel_unmoved (h : GrantsBegun s l t) {c : Channel} (hc : (t.channel c).state = .idle) :
    (∀ i ∈ l, (s.record i).map Claim.channel ≠ some c) ∧ t.channel c = s.channel c := by
  have hno : ∀ i ∈ l, (s.record i).map Claim.channel ≠ some c := by
    intro i hi e
    obtain ⟨r, hb⟩ := h.begun i hi
    rw [hb.record] at e
    cases e
    rw [hb.channel] at hc
    exact ChannelRecord.grant_not_idle _ _ _ hc
  exact ⟨hno, h.others c hno⟩

/-- One grant more. -/
theorem GrantsBegun.grant (h : GrantsBegun s l t) {i : Fin 24} {r : Claim} (hr : t.record i = some r) (hp : r.state = .pending)
    (he : t.eligible r = true) (hh : (r.amount : Int) ≤ t.headroom) : GrantsBegun s (l ++ [i]) (t.grantSlot i r) := by
  obtain ⟨hi, hslot, hs⟩ := h.pending hr hp
  obtain ⟨hidle, -, heff⟩ := State.eligible_idle he
  obtain ⟨hno, hchannel⟩ := h.channel_unmoved hidle
  have hhandle : t.handleAt i = s.handleAt i := by rw [State.handleAt, ← hslot]; rfl
  refine ⟨fun j => ?slot, fun j hj => ?begun, fun c hc => ?others, fun _ => ?headroom, fun q => ?notices, ?rest⟩
  case slot =>
    rw [State.grantSlot_slot, ← hslot, h.slot]
    by_cases e : j = i
    · subst e; simp [State.grantedSlot, hs]
    · simp [e]
  case begun =>
    rcases List.mem_append.mp hj with hj | hj
    · obtain ⟨q, hb⟩ := h.begun j hj
      have hne : q.channel ≠ r.channel := fun e => hno j hj (by rw [hb.record, ← e]; rfl)
      exact ⟨q, hb.record, hb.pending, hb.idle, hb.amount, by rw [State.grantSlot_channel, if_neg hne, hb.channel]⟩
    · obtain rfl := List.mem_singleton.mp hj
      exact ⟨r, hs, hp, hchannel ▸ hidle, h.effective ▸ heff, by rw [State.grantSlot_channel, if_pos rfl, hchannel, hhandle]⟩
  case others =>
    have hne : c ≠ r.channel := fun e => hc i (by simp) (by rw [hs, e]; rfl)
    rw [State.grantSlot_channel, if_neg hne]
    exact h.others c fun j hj => hc j (List.mem_append_left _ hj)
  case headroom => rw [State.grantSlot_headroom]; omega
  case notices =>
    rw [claimNotices_append hs]
    have hsessions : t.sessions = s.sessions := by rw [h.rest]
    have hscan : t.scan = s.scan := by rw [h.rest]
    refine State.noticesAfter_withNotice (h.notices q) hsessions ?_
    rw [State.grantSlot_eq, hhandle]
    simp only [noticeOf, hscan]
  case rest =>
    have hrest := h.rest
    rw [State.grantSlot_eq]
    simp only
    rw [hrest]

end Begun

/-! ### The walk of the queue (R30, R31) -/

theorem State.grantedOn_iff (s : State) (c : Channel) :
    s.grantedOn c = true ↔ ∃ j q, s.record j = some q ∧ q.state = .granted ∧ q.channel = c := by
  unfold State.grantedOn
  rw [List.any_eq_true]
  refine ⟨fun ⟨j, _, h⟩ => ?_, fun ⟨j, q, hq, hg, hc⟩ => ⟨j, mem_allSlots j, ?_⟩⟩
  · cases hr : s.record j with
    | none => rw [hr] at h; cases h
    | some q => rw [hr] at h; exact ⟨j, q, hr, of_decide_eq_true h⟩
  · rw [hq]; exact decide_eq_true ⟨hg, hc⟩

theorem State.grantSlot_record (t : State) (i : Fin 24) (r : Claim) (j : Fin 24) :
    (t.grantSlot i r).record j = if j = i then some { r with state := .granted } else t.record j := by
  rw [State.record, State.grantSlot_slot]
  split <;> rfl

/-- A grant makes no record eligible. -/
theorem State.eligible_of_grantSlot {t : State} {i : Fin 24} {r u : Claim} (hr : t.record i = some r) (hp : r.state = .pending)
    (h : (t.grantSlot i r).eligible u = true) : t.eligible u = true := by
  obtain ⟨hidle, hno, hle⟩ := State.eligible_idle h
  rw [State.grantSlot_channel] at hidle
  have hne : u.channel ≠ r.channel := by
    intro e
    rw [if_pos e] at hidle
    exact ChannelRecord.grant_not_idle _ _ _ hidle
  rw [if_neg hne] at hidle
  have hno' : t.grantedOn u.channel = false := by
    refine Bool.eq_false_iff.mpr fun ht => Bool.eq_false_iff.mp hno ?_
    obtain ⟨j, q, hq, hg, hc⟩ := (State.grantedOn_iff _ _).mp ht
    have hj : j ≠ i := by
      rintro rfl
      cases hr.symm.trans hq
      rw [hp] at hg
      cases hg
    exact (State.grantedOn_iff _ _).mpr ⟨j, q, by rw [State.grantSlot_record, if_neg hj, hq], hg, hc⟩
  have hle' : u.amount ≤ t.budget.effective := by rw [State.grantSlot_eq] at hle; exact hle
  simp [State.eligible, State.free, hidle, hno', hle']

/-- What a pass has done when it has passed the slots `done` of its queue: the grants of a part of them, in their order, and
of none of the others is a PENDING record eligible. -/
structure Walked (s : State) (done l : List (Fin 24)) (t : State) : Prop where
  grants : GrantsBegun s l t
  sublist : l.Sublist done
  passed : ∀ k ∈ done, ∀ u, t.record k = some u → u.state = .pending → t.eligible u = false

/-- What a pass leaves: it passed its whole queue, or stopped at the first eligible record, which is above the headroom. -/
structure PassEnds (s : State) (queue : List (Fin 24)) (t : State) : Prop where
  ends : ∃ done rest l, queue = done ++ rest ∧ Walked s done l t ∧
    ∀ i more, rest = i :: more →
      ∃ q, t.record i = some q ∧ q.state = .pending ∧ t.eligible q = true ∧ t.headroom < q.amount

section Walk
variable {s t : State} {done l : List (Fin 24)}

/-- A slot passed by. -/
theorem Walked.skip (h : Walked s done l t) {i : Fin 24}
    (hi : ∀ u, t.record i = some u → u.state = .pending → t.eligible u = false) : Walked s (done ++ [i]) l t where
  grants := h.grants
  sublist := h.sublist.trans (List.sublist_append_left _ _)
  passed k hk u hu hp := by
    rcases List.mem_append.mp hk with hk | hk
    · exact h.passed k hk u hu hp
    · obtain rfl := List.mem_singleton.mp hk
      exact hi u hu hp

/-- A slot granted. -/
theorem Walked.grant (h : Walked s done l t) {i : Fin 24} {r : Claim} (hr : t.record i = some r) (hp : r.state = .pending)
    (he : t.eligible r = true) (hh : (r.amount : Int) ≤ t.headroom) :
    Walked s (done ++ [i]) (l ++ [i]) (t.grantSlot i r) where
  grants := h.grants.grant hr hp he hh
  sublist := h.sublist.append (List.Sublist.refl _)
  passed k hk u hu hpu := by
    rw [State.grantSlot_record] at hu
    by_cases e : k = i
    · rw [if_pos e] at hu; cases hu; cases hpu
    · rw [if_neg e] at hu
      have hk : k ∈ done := (List.mem_append.mp hk).resolve_right fun h => e (List.mem_singleton.mp h)
      exact Bool.eq_false_iff.mpr fun h' =>
        Bool.eq_false_iff.mp (h.passed k hk u hu hpu) (State.eligible_of_grantSlot hr hp h')

theorem Walked.walkQueue (h : Walked s done l t) (rest : List (Fin 24)) : PassEnds s (done ++ rest) (t.walkQueue rest) := by
  induction rest generalizing t done l with
  | nil => exact ⟨done, [], l, rfl, h, nofun⟩
  | cons i rest ih =>
    rw [List.append_cons]
    unfold State.walkQueue
    cases hr : t.record i with
    | none => exact ih (h.skip fun u hu => by rw [hr] at hu; cases hu)
    | some r =>
      simp only
      split
      · next he =>
        split
        · next hh => exact ih (h.grant hr he.1 he.2 hh)
        · next hh =>
          rw [← List.append_cons]
          exact ⟨done, i :: rest, l, rfl, h, fun j more e => by cases e; exact ⟨r, hr, he.1, he.2, not_le.mp hh⟩⟩
      · next he =>
        refine ih (h.skip fun u hu hp => Bool.eq_false_iff.mpr fun h' => he ?_)
        cases hr.symm.trans hu
        exact ⟨hp, h'⟩

theorem PassEnds.of_allocationPass (s : State) : PassEnds s s.waitQueue s.allocationPass :=
  Walked.walkQueue (done := []) ⟨.start s, List.Sublist.refl _, nofun⟩ s.waitQueue

end Walk

/-! ### What a pass leaves -/

section Left
variable {s t : State} {done l : List (Fin 24)}

theorem State.inWaitOrder_of_sorted (h : l.Pairwise fun j k => s.slotNotBehind j k = true) : InWaitOrder s l := by
  refine h.imp fun {i j} hij r q hr hq => ?_
  rw [State.slotNotBehind, hr, hq] at hij
  exact hij

theorem State.waitQueue_inWaitOrder (s : State) : InWaitOrder s s.waitQueue := State.inWaitOrder_of_sorted s.waitQueue_sorted

/-- A slot of the list holds a GRANTED record now, and held a PENDING one. -/
theorem GrantsBegun.mem_iff (h : GrantsBegun s l t) (i : Fin 24) :
    i ∈ l ↔ s.recordIs .pending i = true ∧ t.recordIs .granted i = true := by
  have hslot := h.slot i
  refine ⟨fun hi => ?_, fun ⟨hs, ht⟩ => by_contra fun hi => ?_⟩
  · obtain ⟨r, hb⟩ := h.begun i hi
    rw [if_pos hi] at hslot
    refine ⟨(State.recordIs_iff _ _ _).mpr ⟨r, hb.record, hb.pending⟩,
      (State.recordIs_iff _ _ _).mpr ⟨{ r with state := .granted }, ?_, rfl⟩⟩
    rw [State.record, hslot, State.grantedSlot, hb.record]
    rfl
  · rw [if_neg hi] at hslot
    obtain ⟨r, hr, hp⟩ := (State.recordIs_iff _ _ _).mp hs
    obtain ⟨q, hq, hg⟩ := (State.recordIs_iff _ _ _).mp ht
    rw [State.record, hslot, ← State.record, hr] at hq
    cases hq
    rw [hp] at hg
    cases hg

/-- The first eligible record is above the headroom, if there is one. -/
theorem PassEnds.first_above (h : PassEnds s s.waitQueue t) {i : Fin 24} {r : Claim} (hr : t.record i = some r)
    (hp : r.state = .pending) (he : t.eligible r = true) :
    ∃ j q, t.record j = some q ∧ q.state = .pending ∧ t.eligible q = true ∧ t.headroom < q.amount ∧
      ∀ k u, t.record k = some u → u.state = .pending → t.eligible u = true → q.notBehind u = true := by
  obtain ⟨done, rest, l, hqueue, hw, hstop⟩ := h.ends
  have waits : ∀ k u, t.record k = some u → u.state = .pending → t.eligible u = true → k ∈ rest := by
    intro k u hu hpu heu
    have hmem : k ∈ s.waitQueue := (s.mem_waitQueue k).mpr ⟨u, (hw.grants.pending hu hpu).2.2, hpu⟩
    rw [hqueue] at hmem
    refine (List.mem_append.mp hmem).resolve_left fun hk => ?_
    rw [hw.passed k hk u hu hpu] at heu
    cases heu
  obtain ⟨j, more, rfl⟩ := List.exists_cons_of_ne_nil (List.ne_nil_of_mem (waits i r hr hp he))
  obtain ⟨q, hq, hpq, heq, hh⟩ := hstop j more rfl
  have hsorted : InWaitOrder s (j :: more) := by
    have := s.waitQueue_inWaitOrder
    rw [hqueue] at this
    exact (List.pairwise_append.mp this).2.1
  refine ⟨j, q, hq, hpq, heq, hh, fun k u hu hpu heu => ?_⟩
  rcases List.mem_cons.mp (waits k u hu hpu heu) with rfl | hk
  · cases hq.symm.trans hu
    exact q.notBehind_refl
  · exact (List.pairwise_cons.mp hsorted).1 k hk q u (hw.grants.pending hq hpq).2.2 (hw.grants.pending hu hpu).2.2

/-- No record that waits ahead of one that was granted is eligible. -/
theorem PassEnds.ahead_not_eligible (h : PassEnds s s.waitQueue t) {i k : Fin 24} {r q : Claim} (hr : s.record i = some r)
    (hp : r.state = .pending) (hi : t.recordIs .granted i = true) (hq : t.record k = some q) (hpq : q.state = .pending)
    (hb : r.notBehind q = false) : t.eligible q = false := by
  obtain ⟨done, rest, l, hqueue, hw, -⟩ := h.ends
  have hl : i ∈ l := (hw.grants.mem_iff i).mpr ⟨(State.recordIs_iff _ _ _).mpr ⟨r, hr, hp⟩, hi⟩
  have hsq := (hw.grants.pending hq hpq).2.2
  have hmem : k ∈ s.waitQueue := (s.mem_waitQueue k).mpr ⟨q, hsq, hpq⟩
  have hsorted := s.waitQueue_inWaitOrder
  rw [hqueue] at hmem hsorted
  rcases List.mem_append.mp hmem with hk | hk
  · exact hw.passed k hk q hq hpq
  · have := (List.pairwise_append.mp hsorted).2.2 i (hw.sublist.subset hl) k hk r q hr hsq
    rw [hb] at this
    cases this

/-- What a pass makes of a slot. -/
theorem GrantsBegun.slot_cases (h : GrantsBegun s l t) (i : Fin 24) :
    t.record i = s.record i ∨
      ∃ r, s.record i = some r ∧ r.state = .pending ∧ t.record i = some { r with state := .granted } ∧ 0 ≤ t.headroom ∧
        (s.channel r.channel).state = .idle ∧ r.amount ≤ s.budget.effective ∧
        t.channel r.channel = (s.channel r.channel).grant (s.handleAt i) r.amount := by
  have hslot := h.slot i
  by_cases hi : i ∈ l
  · obtain ⟨r, hb⟩ := h.begun i hi
    rw [if_pos hi] at hslot
    refine .inr ⟨r, hb.record, hb.pending, ?_, h.headroom (List.ne_nil_of_mem hi), hb.idle, hb.amount, hb.channel⟩
    rw [State.record, hslot, State.grantedSlot, hb.record]
    rfl
  · rw [if_neg hi] at hslot
    exact .inl (congrArg Slot.record hslot)

theorem ChannelRecord.grant_eq (r : ChannelRecord) (h : Handle) (amount : Nat) :
    r.grant h amount =
      { r with
        holder := some h, target := amount, lastBelow := 0, lo := 0, hi := 0, voteDir := .none, voteCount := 0
        confirm := 2, run := 0, lastAdjust := .none, strikes := 0, settled := false
        state := if r.hold then .held else .ramp
        drive := if r.hold then 0 else min r.config.start r.config.ceiling } := by
  unfold ChannelRecord.grant ChannelRecord.freshSettle
  cases hh : r.hold <;> simp

/-- The granted sum rises by the amounts granted. -/
theorem State.grantedTotal_allocationPass (s : State) :
    s.allocationPass.budget.granted + s.grantedTotal = s.budget.granted + s.allocationPass.grantedTotal := by
  refine State.allocationPass_induction (P := fun t => t.budget.granted + s.grantedTotal = s.budget.granted + t.grantedTotal)
    (fun t i r ht hr hp _ _ => ?_) s rfl
  have htotal := State.grantedTotal_of_set (s := t) (t := t.grantSlot i r) (i := i)
    (x := ⟨(t.slot i).gen, some { r with state := .granted }⟩) (by rw [State.grantSlot_eq])
  have hgranted : (t.grantSlot i r).budget.granted = t.budget.granted + r.amount := by rw [State.grantSlot_eq]
  rw [hr, amountGranted_of_pending hp, amountGranted_of_granted rfl] at htotal
  simp only at htotal
  omega

end Left

/-- Settles O38: what the walk of the queue has granted and passed by. -/
theorem passKeepsHeadOfLineOrder : Obligations.PassKeepsHeadOfLineOrder := by
  rintro s t rfl
  have hends := PassEnds.of_allocationPass s
  obtain ⟨done, rest, l, hqueue, hw, -⟩ := hends.ends
  have hgrants := hw.grants
  have hsub : l.Sublist s.waitQueue := hqueue ▸ hw.sublist.trans (List.sublist_append_left done rest)
  refine ⟨fun i r hr hp he => hends.first_above hr hp he, fun i r k q hr hp hi hq hpq hb =>
    hends.ahead_not_eligible hr hp hi hq hpq hb, fun i => ⟨(s.allocationPass_slot i).1, ?slot⟩, fun c => ?channel,
    s.grantedTotal_allocationPass, by rw [hgrants.rest], ⟨l, s.nodup_waitQueue.sublist hsub, s.waitQueue_inWaitOrder.sublist hsub,
      hgrants.mem_iff, hgrants.notices⟩, ?rest⟩
  case slot =>
    refine (hgrants.slot_cases i).imp_right fun ⟨r, hr, hp, ht, hh, hidle, hle, hc⟩ => ⟨r, hr, hp, ht, hh, hidle, hle, ?_⟩
    rw [hc, ChannelRecord.grant_eq]
    rfl
  case channel =>
    by_cases hc : ∀ i ∈ l, (s.record i).map Claim.channel ≠ some c
    · exact .inl (hgrants.others c hc)
    · push Not at hc
      obtain ⟨i, hi, hc⟩ := hc
      obtain ⟨r, hb⟩ := hgrants.begun i hi
      rw [hb.record] at hc
      exact .inr ⟨i, r, hb.record, hb.pending, ((hgrants.mem_iff i).mp hi).2, Option.some.inj hc⟩
  case rest => rw [hgrants.rest]

end Sys2Proof.Machine
end

section
/-! SUPPORT. What shedding leaves (R33, R34). -/

namespace Sys2Proof.Machine

/-- A slot whose record has been shed. -/
def State.slotAfterShed (s : State) (i : Fin 24) : Slot :=
  ⟨(s.slot i).gen, (s.record i).map fun r => { r with state := .pending, shed := min 255 (r.shed + 1) }⟩

/-- The slots of a list have been shed since `s`, in that order, the last of them of need, and nothing else has happened. -/
structure ShedsMade (s : State) (l : List (Fin 24)) (t : State) : Prop where
  ended : GrantsEnded s l t
  slot : ∀ i, t.slot i = if i ∈ l then s.slotAfterShed i else s.slot i
  needed : ∀ i r, l.getLast? = some i → s.record i = some r → t.budget.effective < t.budget.granted + r.amount
  notices : ∀ q, t.noticesOf q = s.noticesAfter q (claimNotices s .shed (fun _ => none) l q)
  rest : t = { s with slots := t.slots, channels := t.channels, releases := t.releases, notices := t.notices
                      budget := { s.budget with granted := t.budget.granted, releasing := t.budget.releasing } }

section Made
variable {s t : State} {l : List (Fin 24)}

theorem State.shedRecord_slot (t : State) (i : Fin 24) (r : Claim) (j : Fin 24) :
    (t.shedRecord i r).slot j =
      if j = i then ⟨(t.slot i).gen, some { r with state := .pending, shed := min 255 (r.shed + 1) }⟩ else t.slot j := by
  rw [State.shedRecord_frame]; exact State.slot_setSlot t i j _

/-- The record shed, with its grant not yet ended. -/
def State.shedMarked (t : State) (i : Fin 24) (r : Claim) : State :=
  (t.setSlot i ⟨(t.slot i).gen, some { r with state := .pending, shed := min 255 (r.shed + 1) }⟩).lowerGranted r.amount

theorem State.shedRecord_eq (t : State) (i : Fin 24) (r : Claim) :
    t.shedRecord i r =
      { (t.shedMarked i r).sendRelease r.channel r.amount with
        notices := withNotice t r.port (noticeOf t .shed r.channel (some (t.handleAt i)) none) } := by
  have hgen : (((t.shedMarked i r).sendRelease r.channel r.amount).slot i).gen = (t.slot i).gen := by
    have hmarked : (t.shedMarked i r).slot i = ⟨(t.slot i).gen, some { r with state := .pending, shed := min 255 (r.shed + 1) }⟩ :=
      State.slot_setSlot_self t i _
    have hslots : ((t.shedMarked i r).sendRelease r.channel r.amount).slots = (t.shedMarked i r).slots := by
      rw [State.sendRelease_frame]
    rw [State.slot, hslots, ← State.slot, hmarked]
  have hhandle : ((t.shedMarked i r).sendRelease r.channel r.amount).handleAt i = t.handleAt i := by
    rw [State.handleAt, hgen]; rfl
  have hrest : withNotice ((t.shedMarked i r).sendRelease r.channel r.amount) r.port
      (noticeOf ((t.shedMarked i r).sendRelease r.channel r.amount) .shed r.channel (some (t.handleAt i)) none) =
      withNotice t r.port (noticeOf t .shed r.channel (some (t.handleAt i)) none) := by
    rw [State.sendRelease_frame]; rfl
  rw [← hrest, ← hhandle]
  exact State.notify_eq ..

/-- A shed ends the grant of its record. -/
theorem EndsGrant.shed {i : Fin 24} {r : Claim} (hr : t.record i = some r) (hg : r.state = .granted) :
    EndsGrant t (t.shedRecord i r) i r := by
  obtain ⟨hc, hrel, hsum⟩ := State.sendRelease_congr (s := t) (u := t.shedMarked i r) rfl rfl rfl r.channel r.amount
  have heq := t.shedRecord_eq i r
  have hrec : ∀ j, (t.shedRecord i r).record j =
      if j = i then some { r with state := .pending, shed := min 255 (r.shed + 1) } else t.record j := by
    intro j
    rw [State.record, State.shedRecord_slot]
    split <;> rfl
  refine ⟨hr, hg, by rw [heq]; exact hc, by rw [heq]; exact hrel, by rw [State.shedRecord_frame], by rw [heq]; exact hsum,
    fun j q hq hqg => ?_, ?_⟩
  · rw [hrec] at hq
    split at hq
    · cases hq; cases hqg
    · exact hq
  · rw [State.recordIs, hrec, if_pos rfl]
    rfl

theorem ShedsMade.start (s : State) : ShedsMade s [] s :=
  ⟨.start s, fun _ => rfl, nofun, fun q => by simp [State.noticesAfter, claimNotices], rfl⟩

/-- One shed more, where the granted sum is above the effective budget. -/
theorem ShedsMade.shed (h : ShedsMade s l t) {i : Fin 24} {r : Claim} (hi : i ∉ l) (hr : s.record i = some r)
    (hg : r.state = .granted) (hb : t.budget.effective < t.budget.granted) :
    ShedsMade s (l ++ [i]) (t.shedSlot i) := by
  have hslot : t.slot i = s.slot i := by rw [h.slot, if_neg hi]
  have ht : t.record i = some r := by rw [← hr, State.record, State.record, hslot]
  have hshed : t.shedSlot i = t.shedRecord i r := by
    unfold State.shedSlot
    rw [ht]
    exact if_pos hg
  have hhandle : t.handleAt i = s.handleAt i := by rw [State.handleAt, hslot]; rfl
  rw [hshed]
  refine ⟨h.ended.ends (.shed ht hg), fun j => ?slot, fun j q hj hq => ?needed, fun q => ?notices, ?rest⟩
  case slot =>
    rw [State.shedRecord_slot, hslot, h.slot]
    by_cases e : j = i
    · subst e; simp [State.slotAfterShed, hr]
    · simp [e]
  case needed =>
    rw [List.getLast?_concat] at hj
    cases hj
    cases hr.symm.trans hq
    rw [State.shedRecord_frame]
    simp only
    omega
  case notices =>
    rw [claimNotices_append hr]
    have hsessions : t.sessions = s.sessions := by rw [h.rest]
    have hscan : t.scan = s.scan := by rw [h.rest]
    refine State.noticesAfter_withNotice (h.notices q) hsessions ?_
    rw [State.shedRecord_eq, hhandle]
    simp only [noticeOf, hscan]
  case rest =>
    have hrest := h.rest
    rw [State.shedRecord_frame]
    simp only
    rw [hrest]

/-- The walk of shedding stops within the budget, or at the end of its list. -/
theorem ShedsMade.walk (h : ShedsMade s l t) {rest : List (Fin 24)} (hn : (l ++ rest).Nodup)
    (hgranted : ∀ i ∈ rest, s.recordIs .granted i = true) :
    ∃ more left, rest = more ++ left ∧ ShedsMade s (l ++ more) (t.shedWalk rest) := by
  induction rest generalizing t l with
  | nil => exact ⟨[], [], rfl, by rw [List.append_nil]; exact h⟩
  | cons i rest ih =>
    unfold State.shedWalk
    split
    · next hb =>
      obtain ⟨r, hr, hg⟩ := (State.recordIs_iff _ _ _).mp (hgranted i List.mem_cons_self)
      have hi : i ∉ l := fun hi => (List.nodup_append.mp hn).2.2 i hi i List.mem_cons_self rfl
      rw [List.append_cons] at hn
      obtain ⟨more, left, hrest, hw⟩ := ih (h.shed hi hr hg hb) hn fun j hj => hgranted j (List.mem_cons_of_mem _ hj)
      exact ⟨i :: more, left, by rw [hrest]; rfl, by rw [List.append_cons]; exact hw⟩
    · exact ⟨[], i :: rest, rfl, by rw [List.append_nil]; exact h⟩

theorem State.nodup_shedOrder (s : State) : s.shedOrder.Nodup :=
  List.nodup_reverse.mpr (((s.inWaitOrder_perm _).nodup_iff).mpr ((List.nodup_finRange 24).filter _))

theorem State.shedOrder_reversed (s : State) : InWaitOrder s s.shedOrder.reverse := by
  rw [State.shedOrder, List.reverse_reverse]
  refine State.inWaitOrder_of_sorted (s.inWaitOrder_sorted _ fun j hj => ?_)
  obtain ⟨r, hr, -⟩ := (State.recordIs_iff _ _ _).mp (List.mem_filter.mp hj).2
  rw [hr]; rfl

/-- Shedding has shed the records of the first slots of its order, and no others. -/
theorem State.shed_made (s : State) : ∃ l left, s.shedOrder = l ++ left ∧ ShedsMade s l s.shed :=
  (ShedsMade.start s).walk s.nodup_shedOrder fun i hi => (s.mem_shedOrder i).mp hi

/-- A record shed was GRANTED and is PENDING. -/
theorem ShedsMade.mem_iff (h : ShedsMade s l t) (i : Fin 24) :
    i ∈ l ↔ (s.recordIs .granted i && t.recordIs .pending i) = true := by
  have hslot := h.slot i
  rw [Bool.and_eq_true]
  refine ⟨fun hi => ?_, fun ⟨hs, ht⟩ => by_contra fun hi => ?_⟩
  · obtain ⟨r, hr, hg⟩ := (State.recordIs_iff _ _ _).mp (h.ended.listed i hi).1
    rw [if_pos hi] at hslot
    refine ⟨(h.ended.listed i hi).1, (State.recordIs_iff _ _ _).mpr
      ⟨{ r with state := .pending, shed := min 255 (r.shed + 1) }, ?_, rfl⟩⟩
    rw [State.record, hslot, State.slotAfterShed, hr]
    rfl
  · rw [if_neg hi] at hslot
    obtain ⟨r, hr, hg⟩ := (State.recordIs_iff _ _ _).mp hs
    obtain ⟨q, hq, hp⟩ := (State.recordIs_iff _ _ _).mp ht
    rw [State.record, hslot, ← State.record, hr] at hq
    cases hq
    rw [hp] at hg
    cases hg

theorem ShedsMade.slot_cases (h : ShedsMade s l t) (i : Fin 24) :
    t.slot i = s.slot i ∨
      ∃ r, s.record i = some r ∧ r.state = .granted ∧
        t.slot i = ⟨(s.slot i).gen, some { r with state := .pending, shed := min 255 (r.shed + 1) }⟩ := by
  have hslot := h.slot i
  by_cases hi : i ∈ l
  · obtain ⟨r, hr, hg⟩ := (State.recordIs_iff _ _ _).mp (h.ended.listed i hi).1
    rw [if_pos hi, State.slotAfterShed, hr] at hslot
    exact .inr ⟨r, hr, hg, hslot⟩
  · rw [if_neg hi] at hslot
    exact .inl hslot

end Made

/-- Settles O39: the slots shed are the first of the reversed wait order. -/
theorem sheddingTakesTheLeastUrgentNewestFirst : Obligations.SheddingTakesTheLeastUrgentNewestFirst := by
  rintro s t rfl hexact gone
  obtain ⟨l, left, horder, hmade⟩ := s.shed_made
  have hreversed := s.shedOrder_reversed
  rw [horder, List.reverse_append] at hreversed
  obtain ⟨-, hl, hbetween⟩ := List.pairwise_append.mp hreversed
  have hgone : ∀ i, i ∈ l ↔ gone i = true := hmade.mem_iff
  have mem : ∀ {i}, s.recordIs .granted i = true → s.shed.recordIs .pending i = true → i ∈ l := fun hs ht =>
    (hgone _).mpr (by simp only [gone, hs, ht, Bool.and_self])
  have grantedAt : ∀ {i r}, s.record i = some r → r.state = .granted → s.recordIs .granted i = true := fun hr hg =>
    (State.recordIs_iff _ _ _).mpr ⟨_, hr, hg⟩
  refine ⟨State.shed_within hexact, ?exact, hmade.slot_cases, fun i j r q hr hg hi hq hj => ?order, fun i hs ht => ?last,
    fun i r hr hi hh => hmade.ended.ended i ((hgone i).mpr hi) r hr hh,
    fun c hc => hmade.ended.others c fun i hi => hc i ((hgone i).mp hi), fun hall => ?releasing,
    ⟨l, hmade.ended.nodup, hl, hgone, hmade.notices⟩, hmade.rest⟩
  case exact =>
    exact (Moves.shed (L := .noReform)).keeps (P := State.GrantedExact) (fun _ _ => Move.keeps_grantedExact) hexact
  case order =>
    have hj' : j ∈ left := by
      obtain ⟨u, hu, hug⟩ := (State.recordIs_iff _ _ _).mp hj
      have hsj : s.recordIs .granted j = true := grantedAt (hmade.ended.within j u hu hug) hug
      have hmem := (s.mem_shedOrder j).mpr hsj
      rw [horder] at hmem
      refine (List.mem_append.mp hmem).resolve_left fun hjl => ?_
      rw [(hmade.ended.listed j hjl).2] at hj
      cases hj
    exact hbetween j (List.mem_reverse.mpr hj') i (List.mem_reverse.mpr (mem (grantedAt hr hg) hi)) q r hq hr
  case last =>
    obtain ⟨init, j, rfl⟩ : ∃ init j, l = init ++ [j] :=
      ⟨l.dropLast, l.getLast (List.ne_nil_of_mem (mem hs ht)), (List.dropLast_append_getLast _).symm⟩
    have hj : j ∈ init ++ [j] := by simp
    obtain ⟨hsj, htj⟩ := Bool.and_eq_true_iff.mp ((hgone j).mp hj)
    obtain ⟨q, hq, hg⟩ := (State.recordIs_iff _ _ _).mp hsj
    refine ⟨j, q, hq, hg, htj, hmade.needed j q List.getLast?_concat hq, fun k u hu hug hk => ?_⟩
    rcases List.mem_append.mp (mem (grantedAt hu hug) hk) with hk | hk
    · rw [List.reverse_append, List.reverse_singleton, List.singleton_append] at hl
      exact (List.pairwise_cons.mp hl).1 k (List.mem_reverse.mpr hk) q u hq hu
    · obtain rfl := List.mem_singleton.mp hk
      cases hq.symm.trans hu
      exact q.notBehind_refl
  case releasing =>
    rw [sumOver_of_list hmade.ended.nodup hgone]
    exact hmade.ended.releasing fun i hi r hr => hall i r hr ((hgone i).mp hi)

end Sys2Proof.Machine
end

section
/-! SUPPORT. What follows a change of the budgets or of the DERATE state (R21, R22, R24). -/

namespace Sys2Proof.Machine

/-- What a port's notice queue becomes by a BUDGET notice (R24). -/
def State.toldBudget (u : State) (q : Port) : NoticeQueue :=
  if (u.session q).state = .opened then (u.noticesOf q).put u.budgetNotice else u.noticesOf q

section Told
variable (u : State)

theorem State.notify_noticesOf (p : Port) (n : Notice) (q : Port) :
    (u.notify p n).noticesOf q =
      if q = p then (if (u.session p).state = .opened then (u.noticesOf p).put n else u.noticesOf p) else u.noticesOf q := by
  rw [State.notify_eq, State.noticesOf, withNotice]
  by_cases h : q = p
  · subst h
    rw [if_pos rfl]
    split
    · exact PerPort.get_set_self ..
    · rfl
  · rw [if_neg h]
    split
    · exact PerPort.get_set_ne _ _ h
    · rfl

/-- A BUDGET notice for each port of a list without repetitions. -/
theorem State.foldl_notify_noticesOf (l : List Port) (h : l.Nodup) (q : Port) :
    (l.foldl (fun t p => t.notify p t.budgetNotice) u).noticesOf q = if q ∈ l then u.toldBudget q else u.noticesOf q := by
  induction l generalizing u with
  | nil => rfl
  | cons p l ih =>
    obtain ⟨hp, hl⟩ := List.nodup_cons.mp h
    have hcongr : (u.notify p u.budgetNotice).session q = u.session q ∧
        (u.notify p u.budgetNotice).budgetNotice = u.budgetNotice := by
      rw [State.notify_eq]; exact ⟨rfl, rfl⟩
    rw [List.foldl_cons, ih _ hl, State.toldBudget, hcongr.1, hcongr.2, State.notify_noticesOf]
    by_cases e : q = p
    · subst e
      rw [if_neg hp, if_pos rfl, if_pos List.mem_cons_self]
      rfl
    · simp only [e, if_false, List.mem_cons, false_or]
      rfl

theorem State.notifyBudget_eq :
    u.notifyBudget =
      { u with notices := ⟨u.toldBudget .A, u.toldBudget .B, u.toldBudget .C, u.toldBudget .D⟩ } := by
  have h : ∀ q, u.notifyBudget.notices.get q = u.toldBudget q := fun q =>
    (u.foldl_notify_noticesOf allPorts (by decide) q).trans (if_pos (by cases q <;> decide))
  have hnotices : u.notifyBudget.notices = ⟨u.toldBudget .A, u.toldBudget .B, u.toldBudget .C, u.toldBudget .D⟩ :=
    PerPort.ext_get fun q => (h q).trans (by cases q <;> rfl)
  rw [u.notifyBudget_frame, hnotices]

end Told

/-- The end of the action: the notices, where the effective budget is another than it was, and a pass (R21, R22). -/
def State.budgetFinished (u : State) (old : Nat) : State :=
  State.allocationPass (if u.budget.effective = old then u else u.notifyBudget)

theorem State.reformBudget_of_sheds (s : State) :
    s.reformBudget true =
      (State.shed { s with budget := { s.budget with effective := s.budget.formed } }).budgetFinished s.budget.effective := by
  have heff : (State.shed { s with budget := { s.budget with effective := s.budget.formed } }).budget.effective =
      s.budget.formed := by rw [State.shed_frame]
  rw [State.budgetFinished, heff]
  rfl

theorem State.reformBudget_of_keeps (s : State) :
    s.reformBudget false =
      State.budgetFinished { s with budget := { s.budget with effective := s.budget.formed } } s.budget.effective := rfl

/-- The notices are those of the state before the action but for the budget, which shedding does not concern. -/
theorem State.budgetFinished_eq {s u : State} (hs : u.sessions = s.sessions) (hc : u.scan = s.scan) :
    u.budgetFinished s.budget.effective =
      State.allocationPass
        (if u.budget.effective = s.budget.effective then u
         else { u with notices :=
           let put : Port → NoticeQueue := fun q =>
             if (s.session q).state = .opened then
               (u.noticesOf q).put
                 { kind := .budget, stamp := s.scan.counter, channel := none, handle := none,
                   value := some u.budget.effective, derate := some u.budget.derateOn, kindsLost := 0#16,
                   lostCount := 0 }
             else u.noticesOf q
           ⟨put .A, put .B, put .C, put .D⟩ }) := by
  unfold State.budgetFinished
  rw [State.notifyBudget_eq]
  unfold State.toldBudget State.budgetNotice State.session
  rw [hs, hc]

/-- Settles O40: the budget is stored, and the rest of the action is `budgetFinished`. -/
theorem budgetActionsShedNotifyAndPass : Obligations.BudgetActionsShedNotifyAndPass := by
  intro s finish
  have done : ∀ u : State, u.sessions = s.sessions → u.scan = s.scan → u.budgetFinished s.budget.effective = finish u :=
    fun u => State.budgetFinished_eq
  have shed_done : ∀ b : Budget, (State.shed { s with budget := b }).budgetFinished s.budget.effective =
      finish (State.shed { s with budget := b }) := fun b =>
    done _ (by rw [State.shed_frame]) (by rw [State.shed_frame])
  refine ⟨fun p c n d h hd => congrArg Host.Outcome.next ?set, fun level hr => ?derate⟩
  case set =>
    refine (State.execute_own_of_onto h.toTakenOpen hd (.inr h.supervisor) (setBudgetOwn_onto p (n, d))).trans ?_
    refine congrArg (fun u : State => u.answered p c .ok []) ?_
    change State.reformBudget { s with budget := { s.budget with normal := n, derated := d } } true = _
    rw [State.reformBudget_of_sheds]
    exact shed_done _
  case derate =>
    intro on
    have hexec : exec (.derateEvent level) s = .next (s.derateLevel level) :=
      congrArg Host.Outcome.next (if_neg (by rw [hr]; decide))
    have changed : on ≠ s.budget.derateOn → s.derateLevel level =
        State.derateEvent { s with budget := { s.budget with derateLevel := level } } on := fun h => if_neg h
    rw [hexec]
    refine ⟨fun h => congrArg Host.Outcome.next (if_pos h), fun h hoff => congrArg Host.Outcome.next ?_,
      fun h hon => congrArg Host.Outcome.next ?_⟩
    · rw [changed (by rw [h, hoff]; decide), h, State.derateEvent, State.reformBudget_of_sheds]
      exact shed_done _
    · rw [changed (by rw [h, hon]; decide), h, State.derateEvent, State.reformBudget_of_keeps]
      exact done _ rfl rfl

end Sys2Proof.Machine
end

section
/-! SUPPORT. Input events, the groups' two commands (R101 to R111), and the two commands that configure a channel (R46, R47). -/

namespace Sys2Proof.Machine

/-! ### The trip unit's actions (R105) -/

/-- Whether the forming of the hold flags ends a wind-down, as the statements say it. -/
theorem State.holdEndsWindDown_eq (s : State) (after : Vector Group 4) : s.holdEndsWindDown after = endsWindDown s after := by
  unfold State.holdEndsWindDown endsWindDown
  rw [Bool.eq_iff_iff, List.any_eq_true, decide_eq_true_eq]
  refine exists_congr fun c => ?_
  rw [holdFormed_eq, Bool.and_eq_true, Bool.and_eq_true, Bool.not_eq_true', decide_eq_true_eq, and_assoc]
  exact and_iff_right (mem_allChannels c)

/-- An action of the trip unit, as the statements say it. -/
theorem State.tripAction_eq (s : State) (after : Vector Group 4) :
    s.tripAction after = if endsWindDown s after then (s.putGroups after).allocationPass else s.putGroups after := by
  rw [State.tripAction, State.holdEndsWindDown_eq]

/-- The groups of an input event, as the statement writes them. -/
theorem State.settledGroups_eq (s : State) :
    s.settledGroups = Vector.ofFn fun g =>
      { s.group g with state := tableState (s.group g).state (s.group g).mode (conditionOf (s.group g) s.trip.inputs) } :=
  Vector.ext fun g hg => by
    rw [Vector.getElem_ofFn]
    exact s.group_settledGroups ⟨g, hg⟩

/-- Settles O51: an input event is the trip unit's action on the settled groups; the FLT pins and SOFT TRIP take one where
they change. -/
theorem inputEventFollowsTheGroupTable : Obligations.InputEventFollowsTheGroupTable := by
  intro s i v inputs after placed
  refine ⟨fun j => ⟨j.number_lt, s.input_recordInput i j v⟩, ?event, fun pin level hr => ?flt,
    fun p c h hd => ⟨fun hv => congrArg Host.Outcome.next ?same, fun hv => congrArg Host.Outcome.next ?taken⟩⟩
  case event =>
    have hgroups : (s.recordInput i v).settledGroups = after := (s.recordInput i v).settledGroups_eq
    refine ((s.recordInput i v).tripAction_eq _).trans ?_
    rw [hgroups]
    rfl
  case flt =>
    intro on sampled
    have hexec : exec (.fltPinChange pin level) s = .next (s.fltLevel pin level) :=
      congrArg Host.Outcome.next (if_neg (by rw [hr]; decide))
    rw [hexec]
    exact ⟨fun h => congrArg Host.Outcome.next (if_pos h), fun h => congrArg Host.Outcome.next (if_neg h)⟩
  case same =>
    refine (State.execute_own_of_onto h hd (.inl rfl) (softTripOwn_onto p v)).trans ?_
    rw [softTripOwn, if_pos hv]
    rfl
  case taken =>
    refine (State.execute_own_of_onto h hd (.inl rfl) (softTripOwn_onto p v)).trans ?_
    rw [softTripOwn, if_neg hv]
    rfl

/-- Settles O52: both commands are an action of the trip unit on its groups. -/
theorem groupCommandsFollowTheirTables : Obligations.GroupCommandsFollowTheirTables := by
  intro s p c
  refine ⟨fun h o hd => ?set, fun h k hd => ⟨fun hs => congrArg Host.Outcome.next ?idle, fun hs => congrArg Host.Outcome.next ?active,
    fun hs => ?latched⟩⟩
  case set =>
    intro g new after
    have hgroups : s.groupsSet o = after := by
      rw [State.groupsSet, Group.settle_eq]; rfl
    refine congrArg Host.Outcome.next ?_
    refine (State.execute_own_of_onto h.toTakenOpen hd (.inr h.supervisor) (setGroupOwn_onto p o)).trans ?_
    rw [setGroupOwn, State.tripAction_eq, hgroups]
    rfl
  case idle =>
    refine (State.execute_own_of_onto h.toTakenOpen hd (.inr h.supervisor) (clearGroupOwn_onto p k)).trans ?_
    rw [clearGroupOwn, hs]
    rfl
  case active =>
    refine State.execute_own_refuses h.taken h.opcode hd (.inr h.opened) (.inr h.supervisor) ?_
    have hg : ((s.takeFrom p).group k).state = .active := hs
    rw [clearGroupOwn, hg]
  case latched =>
    intro after
    refine congrArg Host.Outcome.next ?_
    refine (State.execute_own_of_onto h.toTakenOpen hd (.inr h.supervisor) (clearGroupOwn_onto p k)).trans ?_
    rw [clearGroupOwn, hs]
    simp only
    rw [State.tripAction_eq]
    rfl

/-! ### Channel configuration (R46, R47, R64, R65) -/

theorem State.named_iff (s : State) (c : Channel) : s.named c = true ↔ ∃ i, (s.record i).map Claim.channel = some c := by
  unfold State.named
  rw [List.any_eq_true]
  refine exists_congr fun i => ?_
  rw [and_iff_right (mem_allSlots i)]
  cases s.record i <;> simp

/-- A lower ceiling clips the drive, and ends a settle state. -/
theorem ChannelRecord.changeCeiling_of_clips {r : ChannelRecord} {ceiling : Nat} (h : ceiling < r.drive) :
    r.changeCeiling ceiling =
      if r.state.settling then
        { r with config := { r.config with ceiling := ceiling }, drive := ceiling, state := .track, voteDir := .none
                 voteCount := 0 }
      else { r with config := { r.config with ceiling := ceiling }, drive := ceiling } := by
  rw [ChannelRecord.changeCeiling, if_pos h]
  rfl

/-- A ceiling at or above the drive ends BISECT where it falls below the interval, and LIMITED where it rises. -/
theorem ChannelRecord.changeCeiling_of_within {r : ChannelRecord} {ceiling : Nat} (h : r.drive ≤ ceiling) :
    r.changeCeiling ceiling =
      if (r.state = .bisect ∧ ceiling < r.config.ceiling ∧ ceiling < r.hi) ∨ (r.state = .limited ∧ r.config.ceiling < ceiling)
      then { r with config := { r.config with ceiling := ceiling }, state := .track, voteDir := .none, voteCount := 0 }
      else { r with config := { r.config with ceiling := ceiling } } := by
  rw [ChannelRecord.changeCeiling, if_neg (not_lt.mpr h)]
  cases hs : r.state <;> simp [ChannelRecord.toTrack, ChannelRecord.clearVotes]

/-- Settles O57. -/
theorem channelConfigurationCommandsFollowTheirTables : Obligations.ChannelConfigurationCommandsFollowTheirTables := by
  intro s p c
  refine ⟨fun o h hd => ?loop, fun o h hd => ?limits⟩
  case loop =>
    intro r claimed
    have hnamed := s.named_iff o.channel
    refine ⟨fun hs hno => congrArg Host.Outcome.next ?_, fun hbusy => congrArg Host.Outcome.next ?_⟩
    · have hfree : s.named o.channel = false := Bool.eq_false_iff.mpr fun h => hno (hnamed.mp h)
      refine (State.execute_own_of_onto h.toTakenOpen hd (.inr h.supervisor) (setChannelLoopOwn_onto p o)).trans ?_
      rw [setChannelLoopOwn, if_pos ⟨hs, hfree⟩]
      rfl
    · refine State.execute_own_refuses h.taken h.opcode hd (.inr h.opened) (.inr h.supervisor) (if_neg ?_)
      rintro ⟨hs, hfree⟩
      rcases hbusy with ⟨h1, h2⟩ | hclaimed
      · exact hs.elim h1 h2
      · exact Bool.eq_false_iff.mp hfree (hnamed.mpr hclaimed)
  case limits =>
    intro old r become ends
    have became : ∀ x, old.setLimits o = x → become x := fun x hx => congrArg Host.Outcome.next
      ((State.execute_own_of_onto h.toTakenOpen hd (.inr h.supervisor) (setChannelLimitsOwn_onto p o)).trans (by
        rw [setChannelLimitsOwn, ← hx]; rfl))
    let stored : ChannelRecord :=
      { old with config := { old.config with rating := o.rating, guard := o.guard, gain := o.gain } }
    have clips := fun h => ChannelRecord.changeCeiling_of_clips (r := stored) (ceiling := o.ceiling) h
    have within := fun h => ChannelRecord.changeCeiling_of_within (r := stored) (ceiling := o.ceiling) h
    exact ⟨fun hc hs => became _ ((clips hc).trans (if_pos hs)),
      fun hc hs => became _ ((clips hc).trans (if_neg fun e : old.state.settling = true => by rw [hs] at e; cases e)),
      fun hc he => became _ ((within hc).trans (if_pos he)), fun hc he => became _ ((within hc).trans (if_neg he))⟩

end Sys2Proof.Machine
end

section
/-! SUPPORT. Trips and their end: CLEAR TRIP (R82, R83), the third strike (R79, R81), and SET PINS (R103). -/

namespace Sys2Proof.Machine

/-! ### CLEAR TRIP (R82, R83) -/

section Clear
variable {s : State} {ch : Channel}

/-- The state with a channel's trip cleared at its loop. -/
def State.tripCleared (s : State) (ch : Channel) : State := s.setChannel ch (s.channel ch).clearTrip

theorem State.tripCleared_state (s : State) (ch d : Channel) :
    ((s.tripCleared ch).channel d).state = .tripped ↔ d ≠ ch ∧ (s.channel d).state = .tripped := by
  rw [State.tripCleared, State.channel_setChannel]
  split
  · next h => exact iff_of_false (by simp [ChannelRecord.clearTrip, ChannelRecord.toIdle]) fun e => e.1 h
  · next h => exact (and_iff_right h).symm

/-- TRIPANY stays asserted while another channel is TRIPPED. -/
theorem State.tripCleared_followTripany_of_other (h : ∃ d, d ≠ ch ∧ (s.channel d).state = .tripped)
    (hi : s.input .tripany = true) : (s.tripCleared ch).followTripany = s.tripCleared ch := by
  obtain ⟨d, hd⟩ := h
  have hany : (s.tripCleared ch).anyTripped = true :=
    (State.anyTripped_iff _).mpr ⟨d, (s.tripCleared_state ch d).mpr hd⟩
  exact if_pos (hany.trans hi.symm)

/-- TRIPANY falls with the last TRIPPED channel. -/
theorem State.tripCleared_followTripany_of_last (h : ∀ d, d ≠ ch → (s.channel d).state ≠ .tripped)
    (hi : s.input .tripany = true) :
    (s.tripCleared ch).followTripany = (s.tripCleared ch).inputEvent .tripany false := by
  have hany : (s.tripCleared ch).anyTripped = false := by
    refine Bool.eq_false_iff.mpr fun he => ?_
    obtain ⟨d, hd⟩ := (State.anyTripped_iff _).mp he
    obtain ⟨hne, ht⟩ := (s.tripCleared_state ch d).mp hd
    exact h d hne ht
  have hne : ¬ (s.tripCleared ch).anyTripped = (s.tripCleared ch).input .tripany := fun e => by
    rw [hany] at e
    cases e.trans hi
  rw [State.followTripany, if_neg hne, hany]

end Clear

/-- Settles O54: CLEAR TRIP's two tests, and TRIPANY as the loops present it afterwards. -/
theorem clearTripFreesTheChannel : Obligations.ClearTripFreesTheChannel := by
  intro s p c ch h hd cleared
  have accepted : (s.channel ch).state = .tripped → ((s.session p).supervisor = true ∨ (s.channel ch).tripOwner = some p) →
      exec .clearTrip s = .next ((s.tripCleared ch).followTripany.allocationPass.answered p c .ok []) := by
    intro hs ho
    have hmay : ¬ ((s.session p).supervisor = false ∧ (s.channel ch).tripOwner ≠ some p) := by
      rintro ⟨h1, h2⟩
      rcases ho with ho | ho
      · rw [h1] at ho; cases ho
      · exact h2 ho
    have hown : clearTripOwn p ch s = ((s.tripCleared ch).followTripany.allocationPass, .done) := by
      unfold clearTripOwn
      simp only
      rw [if_neg (not_not.mpr hs), if_neg hmay]
      rfl
    refine congrArg Host.Outcome.next ((State.execute_own_of_onto h hd (.inl rfl) (clearTripOwn_onto p ch)).trans ?_)
    rw [hown]
    rfl
  refine ⟨fun hs => congrArg Host.Outcome.next ?_, fun hs hn ho => congrArg Host.Outcome.next ?_,
    fun hs ho => ⟨fun hd hi => ?_, fun hd hi => ?_⟩⟩
  · exact State.execute_own_refuses h.taken h.opcode hd (.inr h.opened) (.inl rfl) (if_pos hs)
  · exact State.execute_own_refuses h.taken h.opcode hd (.inr h.opened) (.inl rfl)
      ((if_neg (not_not.mpr hs)).trans (if_pos ⟨hn, ho⟩))
  · rw [accepted hs ho, State.tripCleared_followTripany_of_other hd hi]
    rfl
  · rw [accepted hs ho, State.tripCleared_followTripany_of_last hd hi]
    rfl

end Sys2Proof.Machine
end

section
/-! SUPPORT. SET PINS (R103): what the changed pins make of the inputs and the groups, whatever their order, and what
follows them. -/

namespace Sys2Proof.Machine

/-! ### The groups and their inputs -/

theorem tableState_fixed_iff (x : GroupState) (m : GroupMode) (b : Bool) : x = tableState x m b ↔ (x = .active ↔ b = true) := by
  cases x <;> cases m <;> cases b <;> simp [tableState]

/-- The groups agree with the inputs where none of them would move. -/
theorem State.groupsFormed_iff (s : State) : s.GroupsFormed ↔ TripUnitSettled s := by
  have hg : ∀ g, ((s.group g).state = .active ↔ (s.group g).condition s.trip.inputs = true) ↔
      (s.group g).state = tableState (s.group g).state (s.group g).mode (conditionOf (s.group g) s.trip.inputs) := fun g => by
    rw [tableState_fixed_iff, Group.condition_eq]
  exact ⟨fun h => ⟨fun g => (hg g).mp (h.active g), h.holds, h.fault⟩,
    fun h => ⟨fun g => (hg g).mpr (h.groups g), h.holds, h.fault⟩⟩

/-- Settled twice is settled once, but for an input condition that rises and falls again. -/
theorem tableState_tableState {x : GroupState} {m : GroupMode} {b c : Bool} (h : b = true → c = false → x = .active) :
    tableState (tableState x m b) m c = tableState x m c := by
  cases c with
  | true => simp [tableState]
  | false =>
    cases b with
    | true => rw [h rfl rfl]; cases m <;> rfl
    | false => cases x <;> cases m <;> rfl

section Pins
variable {s : State} {l : List FltPin}

theorem State.inputs_inputEventNoPass (s : State) (i : TripInput) (v : Bool) :
    (s.inputEventNoPass i v).trip.inputs = setInput s.trip.inputs i v := by rw [State.inputEventNoPass_frame]

theorem State.group_inputEventNoPass (s : State) (i : TripInput) (v : Bool) (g : Fin 4) :
    (s.inputEventNoPass i v).group g =
      { s.group g with
        state := tableState (s.group g).state (s.group g).mode (conditionOf (s.group g) (setInput s.trip.inputs i v)) } := by
  have h : (s.inputEventNoPass i v).trip.groups = (s.recordInput i v).settledGroups := by rw [State.inputEventNoPass_frame]
  rw [State.group, h]
  exact (s.recordInput i v).group_settledGroups g

/-- Only the pins of the list change their inputs. -/
theorem State.takePins_getLsbD {k : Nat} (h : ∀ i ∈ l, k ≠ (TripInput.flt i).number) :
    (s.takePins l).trip.inputs.getLsbD k = s.trip.inputs.getLsbD k := by
  induction l generalizing s with
  | nil => rfl
  | cons i rest ih =>
    rw [State.takePins, ih fun j hj => h j (List.mem_cons_of_mem _ hj), State.inputs_inputEventNoPass, setInput_getLsbD,
      if_neg (h i List.mem_cons_self)]

theorem State.takePins_input_of_not_mem {j : TripInput} (h : ∀ i ∈ l, j ≠ .flt i) : (s.takePins l).input j = s.input j :=
  State.takePins_getLsbD fun i hi e => h i hi (TripInput.number_injective e)

/-- A pin of the list changes its input. -/
theorem State.takePins_input_of_mem (hl : l.Nodup) {i : FltPin} (hi : i ∈ l) :
    (s.takePins l).input (.flt i) = !s.input (.flt i) := by
  induction l generalizing s with
  | nil => cases hi
  | cons j rest ih =>
    obtain ⟨hj, hrest⟩ := List.nodup_cons.mp hl
    rw [State.takePins]
    by_cases e : i = j
    · subst e
      rw [State.takePins_input_of_not_mem fun k hk e => hj (by cases e; exact hk), State.input_inputEventNoPass, if_pos rfl]
    · have hne : TripInput.flt i ≠ .flt j := fun h => e (by cases h; rfl)
      rw [ih hrest ((List.mem_cons.mp hi).resolve_left e), State.input_inputEventNoPass, if_neg hne]

theorem State.GroupsFormed.inputEventNoPass (s : State) (i : TripInput) (v : Bool) :
    (s.inputEventNoPass i v).GroupsFormed := .putGroups (s.recordInput i v).settledGroups_active

theorem State.GroupsFormed.takePins (hs : s.GroupsFormed) : (s.takePins l).GroupsFormed := by
  induction l generalizing s with
  | nil => exact hs
  | cons i rest ih => exact ih (.inputEventNoPass s (.flt i) _)

/-- A group whose condition a pin makes true, and a later pin of the list false again, had it true before: no pin is taken
twice. -/
theorem conditionOf_before {i : FltPin} {v : Bool} (hi : i ∉ l) (g : Group)
    (h1 : conditionOf g (setInput s.trip.inputs (.flt i) v) = true)
    (h2 : conditionOf g ((s.inputEventNoPass (.flt i) v).takePins l).trip.inputs = false) :
    conditionOf g s.trip.inputs = true := by
  obtain ⟨k, hk, hset⟩ := of_decide_eq_true h1
  refine decide_eq_true ⟨k, hk, ?_⟩
  have hfinal : ¬ ((s.inputEventNoPass (.flt i) v).takePins l).trip.inputs[k] = true := fun h =>
    of_decide_eq_false h2 ⟨k, hk, h⟩
  rw [Fin.getElem_fin, ← BitVec.getLsbD_eq_getElem] at hset hfinal ⊢
  rw [setInput_getLsbD] at hset
  by_cases e : k.val = (TripInput.flt i).number
  · refine absurd ?_ hfinal
    rw [State.takePins_getLsbD fun j hj e' => hi (by cases TripInput.number_injective (e.symm.trans e'); exact hj),
      State.inputs_inputEventNoPass, setInput_getLsbD]
    exact hset
  · rwa [if_neg e] at hset

/-- The groups follow the inputs as if all the pins were taken at once. -/
theorem State.takePins_group (hl : l.Nodup) (hs : s.GroupsFormed) (g : Fin 4) :
    (s.takePins l).group g =
      { s.group g with
        state := tableState (s.group g).state (s.group g).mode (conditionOf (s.group g) (s.takePins l).trip.inputs) } := by
  induction l generalizing s with
  | nil =>
    exact congrArg (fun x => { s.group g with state := x }) (((State.groupsFormed_iff s).mp hs).groups g)
  | cons i rest ih =>
    obtain ⟨hi, hrest⟩ := List.nodup_cons.mp hl
    rw [State.takePins, ih hrest (.inputEventNoPass s (.flt i) _), State.group_inputEventNoPass]
    refine congrArg (fun x => { s.group g with state := x }) (tableState_tableState fun h1 h2 => ?_)
    exact (hs.active g).mpr ((Group.condition_eq _ _).trans (conditionOf_before hi _ h1 h2))

theorem State.configOf_takePins (c : Channel) : (s.takePins l).configOf c = s.configOf c := by
  induction l generalizing s with
  | nil => rfl
  | cons i rest ih =>
    have hput : (s.inputEventNoPass (.flt i) (!s.input (.flt i))).configOf c = s.configOf c := by
      unfold State.configOf State.inputEventNoPass
      rw [State.putGroups_channel]
      obtain ⟨h1, h2⟩ := ((s.recordInput (.flt i) (!s.input (.flt i))).channel c).withHold_keeps
        (heldBy (s.recordInput (.flt i) (!s.input (.flt i))).settledGroups c)
      rw [h1, h2]
      rfl
    rw [State.takePins, ih, hput]

end Pins

/-! ### What follows the pins -/

section Follows
variable {s t u : State}

/-- The records and the channels' configurations, which passes and shedding leave alone. -/
structure PinsKept (s t : State) : Prop where
  gen : ∀ i, (t.slot i).gen = (s.slot i).gen
  record : ∀ i, (t.record i).map Claim.upToShed = (s.record i).map Claim.upToShed
  config : ∀ c, t.configOf c = s.configOf c

theorem PinsKept.trans (h : PinsKept s t) (h' : PinsKept t u) : PinsKept s u :=
  ⟨fun i => (h'.gen i).trans (h.gen i), fun i => (h'.record i).trans (h.record i), fun c => (h'.config c).trans (h.config c)⟩

theorem PinsKept.of_slots (h : t.slots = s.slots) (hc : ∀ c, t.configOf c = s.configOf c) : PinsKept s t :=
  ⟨fun i => by simp only [State.slot, h], fun i => by simp only [State.record, State.slot, h], hc⟩

theorem PinsKept.allocationPass (s : State) : PinsKept s s.allocationPass where
  gen i := (s.allocationPass_slot i).1
  record i := by
    rcases (s.allocationPass_slot i).2 with h | ⟨r, hr, -, h⟩
    · rw [h]
    · rw [h, hr]; rfl
  config c := s.configOf_allocationPass c

theorem State.configOf_shedRecord (s : State) (i : Fin 24) (r : Claim) (c : Channel) :
    (s.shedRecord i r).configOf c = s.configOf c := by
  obtain ⟨hconfig, -, -, howner, -⟩ := (s.channel r.channel).release_keeps r.amount
  have hchannel : (s.shedRecord i r).channel c =
      if c = r.channel then (s.channel r.channel).release r.amount else s.channel c := by
    rw [State.shedRecord_frame]; exact State.channel_setChannel s r.channel c _
  unfold State.configOf
  rw [hchannel]
  split
  · next h => rw [hconfig, howner, h]
  · rfl

theorem PinsKept.shed (s : State) : PinsKept s s.shed := by
  obtain ⟨l, -, -, hmade⟩ := s.shed_made
  refine ⟨fun i => ?_, fun i => ?_, fun c => State.shed_induction (P := fun u => u.configOf c = s.configOf c)
    (fun u j r h _ _ _ => (u.configOf_shedRecord j r c).trans h) s rfl⟩
  · rcases hmade.slot_cases i with h | ⟨r, -, -, h⟩ <;> rw [h]
  · rcases hmade.slot_cases i with h | ⟨r, hr, -, h⟩
    · rw [State.record, h]; rfl
    · rw [State.record, h, hr]; rfl

theorem PinsKept.reformBudget (s : State) (mayShed : Bool) : PinsKept s (s.reformBudget mayShed) := by
  have told : ∀ (u : State) (old : Nat), PinsKept u (u.budgetFinished old) := by
    intro u old
    refine PinsKept.trans (t := if u.budget.effective = old then u else u.notifyBudget) ?_ (.allocationPass _)
    split
    · exact .of_slots rfl fun _ => rfl
    · rw [State.notifyBudget_eq]
      exact .of_slots rfl fun _ => rfl
  have formed : PinsKept s { s with budget := { s.budget with effective := s.budget.formed } } := .of_slots rfl fun _ => rfl
  cases mayShed with
  | true => rw [State.reformBudget_of_sheds]; exact formed.trans ((PinsKept.shed _).trans (told _ _))
  | false => rw [State.reformBudget_of_keeps]; exact formed.trans (told _ _)

end Follows

/-- What a DERATE event makes of the budget (R22). -/
theorem State.budget_derateEvent (u : State) (on : Bool) :
    (u.derateEvent on).budget =
      { u.budget with
        derateOn := on, effective := if on then min u.budget.normal u.budget.derated else u.budget.normal
        granted := (u.derateEvent on).budget.granted, releasing := (u.derateEvent on).budget.releasing } :=
  congrArg State.budget (State.reformBudget_frame { u with budget := { u.budget with derateOn := on } } on)

/-! ### SET PINS, part by part -/

section Whole
variable (s : State) (o : PinOperands)

/-- The state with the polarities stored and the free choice counted. -/
def State.pinsStored : State := (s.storePolarities o).countPinChoice

/-- The order in which the changed pins are taken. -/
def State.pinsInOrder : List FltPin := pinOrder (s.storePolarities o).choice (s.storePolarities o).changedPins

/-- The state with the changed pins taken. -/
def State.pinsTaken : State := (s.pinsStored o).takePins (s.pinsInOrder o)

/-- What follows the pins: DERATE's change, or a pass where a HOLD has ended a wind-down. -/
def State.pinsFinished : State :=
  if assertedAt o.derate s.budget.derateLevel = s.budget.derateOn then
    if (s.pinsStored o).pinsEndWindDown (s.pinsInOrder o) then (s.pinsTaken o).allocationPass else s.pinsTaken o
  else (s.pinsTaken o).derateEvent (assertedAt o.derate s.budget.derateLevel)

theorem setPinsOwn_eq (p : Port) : setPinsOwn p o s = (s.pinsFinished o, .done) := by
  unfold setPinsOwn State.pinsFinished
  simp only
  split
  · rfl
  · rfl

theorem State.pinsStored_eq : s.pinsStored o = { s.storePolarities o with choice := (s.pinsStored o).choice } := by
  unfold State.pinsStored State.countPinChoice
  split <;> rfl

theorem State.nodup_pinsInOrder : (s.pinsInOrder o).Nodup :=
  (pinOrder_perm _ _).nodup_iff.mpr ((List.nodup_finRange 4).filter _)

theorem State.mem_pinsInOrder (i : FltPin) :
    i ∈ s.pinsInOrder o ↔ assertedAt o.flt[i] s.trip.fltLevel[i] ≠ s.input (.flt i) :=
  (pinOrder_perm _ _).mem_iff.trans (State.mem_changedPins (s.storePolarities o) i)

theorem State.input_pinsStored (j : TripInput) : (s.pinsStored o).input j = s.input j := by
  rw [State.pinsStored_eq]; rfl

/-- Every FLT input follows the new polarities, and no other input moves. -/
theorem State.input_pinsTaken (j : TripInput) :
    (s.pinsTaken o).input j =
      match j with
      | .flt i => assertedAt o.flt[i] s.trip.fltLevel[i]
      | j => s.input j := by
  have other : (∀ i, j ≠ .flt i) → (s.pinsTaken o).input j = s.input j := fun h =>
    (State.takePins_input_of_not_mem fun i _ => h i).trans (s.input_pinsStored o j)
  cases j with
  | flt i =>
    simp only
    by_cases hi : i ∈ s.pinsInOrder o
    · rw [State.pinsTaken, State.takePins_input_of_mem (s.nodup_pinsInOrder o) hi, State.input_pinsStored]
      have hne := (s.mem_pinsInOrder o i).mp hi
      cases h1 : assertedAt o.flt[i] s.trip.fltLevel[i] <;> cases h2 : s.input (.flt i) <;> simp_all
    · rw [State.pinsTaken, State.takePins_input_of_not_mem fun k hk e => hi (by cases e; exact hk), State.input_pinsStored]
      exact (not_not.mp fun h => hi ((s.mem_pinsInOrder o i).mpr h)).symm
  | rail | tripany | soft p => exact other fun _ => nofun

theorem State.GroupsFormed.pinsStored {s : State} (h : s.GroupsFormed) (o : PinOperands) : (s.pinsStored o).GroupsFormed := by
  rw [State.pinsStored_eq]
  exact ⟨h.active, h.holds, h.fault⟩

theorem State.GroupsFormed.pinsTaken {s : State} (h : s.GroupsFormed) (o : PinOperands) : (s.pinsTaken o).GroupsFormed :=
  (h.pinsStored o).takePins

theorem State.group_pinsTaken {s : State} (h : s.GroupsFormed) (o : PinOperands) (g : Fin 4) :
    (s.pinsTaken o).group g =
      { s.group g with
        state := tableState (s.group g).state (s.group g).mode (conditionOf (s.group g) (s.pinsTaken o).trip.inputs) } := by
  have hg : (s.pinsStored o).group g = s.group g := by rw [State.pinsStored_eq]; rfl
  have htaken := State.takePins_group (s.nodup_pinsInOrder o) (h.pinsStored o) g
  rw [hg] at htaken
  exact htaken

theorem State.pinsTaken_frame :
    s.pinsTaken o =
      { s with
        trip := { s.trip with fltPolarity := o.flt
                              inputs := (s.pinsTaken o).trip.inputs
                              groups := (s.pinsTaken o).trip.groups
                              fault := (s.pinsTaken o).trip.fault }
        channels := (s.pinsTaken o).channels
        releases := (s.pinsTaken o).releases
        notices := (s.pinsTaken o).notices
        choice := (s.pinsTaken o).choice
        budget := { s.budget with deratePolarity := o.derate, releasing := (s.pinsTaken o).budget.releasing } } := by
  have h := (s.pinsStored o).takePins_frame (s.pinsInOrder o)
  rw [State.pinsTaken, h, State.pinsStored_eq]
  rfl

theorem PinsKept.pinsTaken : PinsKept s (s.pinsTaken o) := by
  refine .of_slots (by rw [State.pinsTaken_frame]) fun c => ?_
  rw [State.pinsTaken, State.configOf_takePins, State.pinsStored_eq]
  rfl

/-! #### What follows the pins -/

theorem PinsKept.pinsFinished : PinsKept s (s.pinsFinished o) := by
  refine (PinsKept.pinsTaken s o).trans ?_
  unfold State.pinsFinished
  split
  · split
    · exact .allocationPass _
    · exact .of_slots rfl fun _ => rfl
  · exact PinsKept.trans (t := { s.pinsTaken o with budget := { (s.pinsTaken o).budget with
      derateOn := assertedAt o.derate s.budget.derateLevel } }) (.of_slots rfl fun _ => rfl) (.reformBudget _ _)

theorem State.pinsFinished_tripKept : TripKept .quiet (s.pinsTaken o) (s.pinsFinished o) := by
  unfold State.pinsFinished
  split
  · split
    · exact (Moves.allocationPass (L := .quiet)).tripKept id
    · exact .refl
  · exact (Moves.derateEvent (L := .quiet) trivial _).tripKept id

/-- What follows the pins changes the claims, the loops, the budget and the notices alone. -/
theorem State.pinsFinished_frame :
    s.pinsFinished o =
      { s.pinsTaken o with
        slots := (s.pinsFinished o).slots
        channels := (s.pinsFinished o).channels
        releases := (s.pinsFinished o).releases
        notices := (s.pinsFinished o).notices
        budget := (s.pinsFinished o).budget } := by
  unfold State.pinsFinished
  split
  · split
    · rw [State.allocationPass_frame]
    · rfl
  · rw [State.derateEvent, State.reformBudget_frame]

/-- The budget follows DERATE's new polarity. -/
theorem State.pinsFinished_budget :
    (s.pinsFinished o).budget =
      { s.budget with
        deratePolarity := o.derate
        derateOn := assertedAt o.derate s.budget.derateLevel
        effective :=
          if assertedAt o.derate s.budget.derateLevel = s.budget.derateOn then s.budget.effective
          else if s.budget.derateOn then s.budget.normal else min s.budget.normal s.budget.derated
        granted := (s.pinsFinished o).budget.granted
        releasing := (s.pinsFinished o).budget.releasing } := by
  obtain ⟨n, htaken⟩ : ∃ n, (s.pinsTaken o).budget = { s.budget with deratePolarity := o.derate, releasing := n } :=
    ⟨(s.pinsTaken o).budget.releasing, by rw [State.pinsTaken_frame]⟩
  unfold State.pinsFinished
  split
  · next hsame =>
    split
    · rw [State.allocationPass_frame, hsame, htaken]
    · rw [hsame, htaken]
  · next hchanged =>
    refine ((s.pinsTaken o).budget_derateEvent _).trans ?_
    rw [htaken]
    cases h1 : assertedAt o.derate s.budget.derateLevel <;> cases h2 : s.budget.derateOn
    · exact absurd (h1.trans h2.symm) hchanged
    · rfl
    · rfl
    · exact absurd (h1.trans h2.symm) hchanged

end Whole

/-- Settles O53: the pins, each taken once, then what follows them. -/
theorem setPinsFollowsTheNewPolarities : Obligations.SetPinsFollowsTheNewPolarities := by
  intro s p c o h hd hs on
  have hformed := (State.groupsFormed_iff s).mpr hs
  have hexec : exec .setPins s = .next ((s.pinsFinished o).answered p c .ok []) := by
    refine congrArg Host.Outcome.next ?_
    refine (State.execute_own_of_onto h.toTakenOpen hd (.inr h.supervisor) (setPinsOwn_onto p o)).trans ?_
    rw [setPinsOwn_eq]
    rfl
  have hkept := s.pinsFinished_tripKept o
  have hinput : ∀ j, (s.pinsFinished o).input j = _ := fun j => (hkept.input j).trans (s.input_pinsTaken o j)
  have hfinished := PinsKept.pinsFinished s o
  refine ⟨fun hflt hderate => ?same, s.pinsFinished o, hexec, (State.groupsFormed_iff _).mp (hkept.formed (hformed.pinsTaken o)),
    ?polarity, ?level, fun i => hinput (.flt i), hinput .rail, hinput .tripany, fun q => hinput (.soft q), fun g => ?group,
    s.pinsFinished_budget o, fun i => ⟨hfinished.gen i, hfinished.record i⟩, fun ch => Prod.ext_iff.mp (hfinished.config ch),
    ?rest⟩
  case same =>
    have hnone : (s.storePolarities o).changedPins = [] :=
      List.eq_nil_iff_forall_not_mem.mpr fun i hi => (State.mem_changedPins _ i).mp hi (hflt i)
    have horder : s.pinsInOrder o = [] := by rw [State.pinsInOrder, hnone]; rfl
    have hstored : s.pinsStored o = s.storePolarities o := by
      rw [State.pinsStored, State.countPinChoice, hnone]; rfl
    have hquiet : s.pinsFinished o = s.storePolarities o := by
      rw [State.pinsFinished, if_pos (show assertedAt _ _ = _ from hderate), State.pinsTaken, horder, hstored]
      rfl
    rw [hexec, hquiet]
    rfl
  case polarity => rw [hkept.trip, State.pinsTaken_frame]
  case level => rw [hkept.trip, State.pinsTaken_frame]
  case group =>
    have hg : (s.pinsFinished o).group g = (s.pinsTaken o).group g := by simp only [State.group, hkept.trip]
    rw [hg, State.group_pinsTaken hformed, hkept.trip]
  case rest =>
    have hframe := s.pinsFinished_frame o
    have hchoice : (s.pinsFinished o).choice = (s.pinsTaken o).choice := by rw [State.pinsFinished_frame]
    rw [hkept.trip, hchoice]
    refine hframe.trans ?_
    rw [s.pinsTaken_frame o]

end Sys2Proof.Machine
end

section
/-! SUPPORT. The third strike (R79, R81): what follows a trip, in either order, and the whole of it where no group watches
TRIPANY. -/

namespace Sys2Proof.Machine

/-! ### The TRIPPED report (R37, R38) -/

/-- A TRIPPED report as the allocator takes it, before its pass. -/
def State.tripReported (s : State) (b : ChannelRecord) (c : Channel) (m : Nat) : State :=
  if b.state = .releasing then s.idleReached c
  else
    match b.holder.bind fun h => (s.resolve h).map fun r => (h, r) with
    | none => s
    | some (h, r) =>
      State.notify (if r.state = .granted then (s.freeSlot h.slot r).lowerGranted r.amount else s.freeSlot h.slot r) r.port
        (s.claimNotice .tripped c (some h) (some m))

section Report
variable (s : State) (b : ChannelRecord) (c : Channel) (m : Nat)

theorem State.reportTrip_eq : s.reportTrip b c m = (s.tripReported b c m).allocationPass := by
  unfold State.reportTrip State.tripReported
  split
  · rfl
  · cases b.holder with
    | none => rfl
    | some h =>
      simp only [State.tripReport, Option.bind_some]
      cases s.resolve h with
      | none => rfl
      | some r =>
        simp only [Option.map_some]
        split <;> rfl

theorem State.tripReported_of_releasing {b : ChannelRecord} (h : b.state = .releasing) :
    s.tripReported b c m = s.idleReached c := if_pos h

/-- A report that carries the handle of a GRANTED record frees it and tells its port. -/
theorem State.tripReported_of_granted {b : ChannelRecord} {h : Handle} {r : Claim} (hb : b.state ≠ .releasing)
    (hh : b.holder = some h) (hgen : (s.slot h.slot).gen = h.gen) (hr : s.record h.slot = some r) (hg : r.state = .granted) :
    s.tripReported b c m =
      { withGrantedLowered (withSlotFreed s h.slot r) r.amount with
        notices := withNotice s r.port (noticeOf s .tripped c (some h) (some m)) } := by
  have hres : s.resolve h = some r := by rw [State.resolve, if_pos hgen, hr]
  unfold State.tripReported
  rw [if_neg hb, hh]
  simp only [Option.bind_some, hres, Option.map_some, hg, if_true]
  rw [State.notify_eq]
  rfl

end Report

/-! ### What the passes and the input events after a trip leave -/

/-- The channel is TRIPPED as `x`, but for the hold flag. -/
def State.TrippedAs (s : State) (c : Channel) (x : ChannelRecord) : Prop :=
  x.state = .tripped ∧ s.channel c = { x with hold := (s.channel c).hold }

theorem State.TrippedAs.of_eq {s : State} {c : Channel} {x : ChannelRecord} (hx : x.state = .tripped) {v : Bool}
    (h : s.channel c = { x with hold := v }) : s.TrippedAs c x := ⟨hx, by rw [h]⟩

theorem State.TrippedAs.state {s : State} {c : Channel} {x : ChannelRecord} (h : s.TrippedAs c x) :
    (s.channel c).state = .tripped := by rw [h.2]; exact h.1

/-- What passes and input events keep after a trip: the channel, every slot but for grants, the counts, and a release amount
of 0. -/
structure AfterTripKept (c : Channel) (x : ChannelRecord) (s t : State) : Prop where
  channel : s.TrippedAs c x → t.TrippedAs c x
  slot : ∀ i, (t.slot i).gen = (s.slot i).gen ∧ (t.record i = s.record i ∨
    ∃ r, s.record i = some r ∧ r.state = .pending ∧ t.record i = some { r with state := .granted })
  counts : t.counts = s.counts
  release : s.releaseOf c = 0 → t.releaseOf c = 0

section Kept
variable {c : Channel} {x : ChannelRecord} {s t u : State}

theorem AfterTripKept.refl (s : State) : AfterTripKept c x s s := ⟨id, fun _ => ⟨rfl, .inl rfl⟩, rfl, id⟩

theorem AfterTripKept.trans (h : AfterTripKept c x s t) (h' : AfterTripKept c x t u) : AfterTripKept c x s u := by
  refine ⟨fun hs => h'.channel (h.channel hs), fun i => ⟨(h'.slot i).1.trans (h.slot i).1, ?_⟩, h'.counts.trans h.counts,
    fun hs => h'.release (h.release hs)⟩
  rcases (h.slot i).2 with h1 | ⟨r, hr, hp, h1⟩
  · rw [← h1]; exact (h'.slot i).2
  · refine .inr ⟨r, hr, hp, ?_⟩
    rcases (h'.slot i).2 with h2 | ⟨q, hq, hqp, -⟩
    · rw [h2, h1]
    · cases h1.symm.trans hq
      cases hqp

/-- A record that is not PENDING stays as it is. -/
theorem AfterTripKept.slot_eq (h : AfterTripKept c x s t) {i : Fin 24} (hi : ∀ r, s.record i = some r → r.state ≠ .pending) :
    t.slot i = s.slot i := by
  obtain ⟨hgen, hrec⟩ := h.slot i
  have hrec : t.record i = s.record i := hrec.resolve_right fun ⟨r, hr, hp, _⟩ => hi r hr hp
  calc t.slot i = ⟨(t.slot i).gen, t.record i⟩ := rfl
    _ = ⟨(s.slot i).gen, s.record i⟩ := by rw [hgen, hrec]
    _ = s.slot i := rfl

theorem AfterTripKept.upToState (h : AfterTripKept c x s t) (i : Fin 24) :
    (t.slot i).gen = (s.slot i).gen ∧ (t.record i).map Claim.upToState = (s.record i).map Claim.upToState := by
  refine ⟨(h.slot i).1, ?_⟩
  rcases (h.slot i).2 with h | ⟨r, hr, -, h⟩
  · rw [h]
  · rw [h, hr]; rfl

theorem AfterTripKept.allocationPass (s : State) : AfterTripKept c x s s.allocationPass where
  channel hs := by
    refine State.allocationPass_induction (P := fun t => t.TrippedAs c x) (fun t i r h _ _ he _ => ?_) s hs
    have hne : c ≠ r.channel := fun e => by
      have := (State.eligible_idle he).1
      rw [← e, h.state] at this
      cases this
    refine .of_eq h.1 (v := (t.channel c).hold) ?_
    rw [State.grantSlot_channel, if_neg hne]
    exact h.2
  slot i := s.allocationPass_slot i
  counts := by rw [State.allocationPass_frame]
  release h := by
    have : s.allocationPass.releases = s.releases := by rw [State.allocationPass_frame]
    rw [State.releaseOf, this]
    exact h

/-- In IDLE and TRIPPED the hold flag alone is formed. -/
theorem ChannelRecord.withHold_of_resting {r : ChannelRecord} (h : r.state = .idle ∨ r.state = .tripped) (held : Bool) :
    r.withHold held = { r with hold := held } := by
  have hheld : r.whenHeld = { r with hold := true } := by
    unfold ChannelRecord.whenHeld
    rcases h with h | h <;> rw [h]
  have hresumed : r.whenResumed = { r with hold := false } := by
    unfold ChannelRecord.whenResumed
    rcases h with h | h <;> rw [h]
  unfold ChannelRecord.withHold
  split
  · next e => rw [e]
  · rw [hheld, hresumed]
    cases held <;> rfl

theorem AfterTripKept.tripAction (s : State) (after : Vector Group 4) : AfterTripKept c x s (s.tripAction after) := by
  have put : AfterTripKept c x s (s.putGroups after) := by
    refine ⟨fun hs => ?_, fun i => ?_, by rw [State.putGroups_frame], fun h => ?_⟩
    · refine .of_eq hs.1 (v := heldBy after c) ?_
      rw [State.putGroups_channel, ChannelRecord.withHold_of_resting (.inr hs.state), hs.2]
    · have hslot : (s.putGroups after).slots = s.slots := by rw [State.putGroups_frame]
      simp only [State.record, State.slot, hslot, true_and, true_or]
    · rw [State.putGroups_releaseOf, h, ite_self]
  unfold State.tripAction
  split
  · exact put.trans (.allocationPass _)
  · exact put

theorem AfterTripKept.followTripany (s : State) : AfterTripKept c x s s.followTripany := by
  unfold State.followTripany
  split
  · exact .refl s
  · have action : AfterTripKept c x (s.recordInput .tripany s.anyTripped) (s.inputEvent .tripany s.anyTripped) :=
      .tripAction _ _
    exact ⟨action.channel, action.slot, action.counts, action.release⟩

/-- The report itself concerns no channel record and no input. -/
theorem State.tripReported_keeps (s : State) (b : ChannelRecord) (c : Channel) (m : Nat) :
    (s.tripReported b c m).channels = s.channels ∧ (s.tripReported b c m).trip = s.trip := by
  unfold State.tripReported
  split
  · exact ⟨rfl, rfl⟩
  · split
    · exact ⟨rfl, rfl⟩
    · rw [State.notify_eq]
      split <;> exact ⟨rfl, rfl⟩

theorem State.TrippedAs.reported (h : s.TrippedAs c x) (b : ChannelRecord) (m : Nat) : (s.tripReported b c m).TrippedAs c x := by
  unfold State.TrippedAs State.channel
  rw [(s.tripReported_keeps b c m).1]
  exact h

/-- TRIPANY rises with the trip. -/
theorem State.TrippedAs.followTripany (h : s.TrippedAs c x) : s.followTripany.input .tripany = true := by
  rw [State.input_followTripany, if_pos rfl]
  exact (State.anyTripped_iff s).mpr ⟨c, h.state⟩

/-- The report, and TRIPANY after it. -/
theorem State.reportTrip_chain (h : s.TrippedAs c x) (b : ChannelRecord) (m : Nat) :
    AfterTripKept c x (s.tripReported b c m) (s.reportTrip b c m).followTripany ∧
      (s.reportTrip b c m).followTripany.input .tripany = true := by
  rw [State.reportTrip_eq]
  exact ⟨(AfterTripKept.allocationPass _).trans (.followTripany _),
    ((AfterTripKept.allocationPass _).channel (h.reported b m)).followTripany⟩

/-- A trip's two consequences, in either order: what is kept before the report is taken, and after it; and TRIPANY. -/
theorem State.afterTrip_chain (hs : s.TrippedAs c x) (b : ChannelRecord) (m : Nat) :
    ∃ v, AfterTripKept c x s v ∧ AfterTripKept c x (v.tripReported b c m) (s.afterTrip b c m) ∧
      (s.afterTrip b c m).input .tripany = true := by
  have counted : AfterTripKept c x s { s with choice := s.choice + 1 } :=
    ⟨id, fun _ => ⟨rfl, .inl rfl⟩, rfl, id⟩
  unfold State.afterTrip
  split
  · simp only
    split
    · refine ⟨_, counted.trans (.followTripany _), ?_, ?_⟩
      · rw [State.reportTrip_eq]
        exact .allocationPass _
      · rw [State.input, State.reportTrip_frame]
        exact (counted.channel hs).followTripany
    · exact ⟨_, counted, State.reportTrip_chain (counted.channel hs) b m⟩
  · exact ⟨s, .refl s, State.reportTrip_chain hs b m⟩

/-! ### Where no group watches TRIPANY -/

/-- The groups' own records change nothing (R105). -/
theorem State.tripAction_self (h : s.GroupsFormed) : s.tripAction s.trip.groups = s := by
  have hstay : ∀ l : List Channel, l.foldl (fun t c => t.formHold s.trip.groups s.trip.groups c) s = s := by
    intro l
    induction l with
    | nil => rfl
    | cons c l ih =>
      have hc : s.formHold s.trip.groups s.trip.groups c = s :=
        if_pos ((holdFormed_eq _ c).trans (h.holds c).symm)
      rw [List.foldl_cons, hc, ih]
  have hput : s.putGroups s.trip.groups = s := by
    have htrip : s.setTrip { s.trip with groups := s.trip.groups, fault := faultFormed s.trip.groups } = s := by
      rw [faultFormed_eq, ← h.fault]; rfl
    unfold State.putGroups
    simp only
    rw [htrip]
    exact hstay allChannels
  have hend : endsWindDown s s.trip.groups = false := by
    refine decide_eq_false ?_
    rintro ⟨c, hheld, hhold, -⟩
    rw [h.holds c, hheld] at hhold
    cases hhold
  rw [State.tripAction_eq, hend, hput]
  rfl

/-- The state with TRIPANY asserted. -/
def State.withTripany (s : State) : State := { s with trip := { s.trip with inputs := s.trip.inputs ||| 0x20#10 } }

/-- No group has TRIPANY in its input set. -/
def State.Unwatched (s : State) : Prop := ∀ g : Fin 4, (s.group g).inputs.getLsbD 5 = false

theorem conditionOf_setInput {g : Group} {i : TripInput} (h : g.inputs.getLsbD i.number = false) (inputs : BitVec 10) (v : Bool) :
    conditionOf g (setInput inputs i v) = conditionOf g inputs := by
  unfold conditionOf
  refine decide_eq_decide.mpr (exists_congr fun k => and_congr_right fun hk => ?_)
  rw [Fin.getElem_fin, ← BitVec.getLsbD_eq_getElem] at hk
  rw [Fin.getElem_fin, Fin.getElem_fin, ← BitVec.getLsbD_eq_getElem, ← BitVec.getLsbD_eq_getElem, setInput_getLsbD,
    if_neg fun e => by rw [e, h] at hk; cases hk]

theorem setInput_self {inputs : BitVec 10} {i : TripInput} {v : Bool} (h : inputs.getLsbD i.number = v) :
    setInput inputs i v = inputs :=
  BitVec.eq_of_getLsbD_eq fun k _ => by
    rw [setInput_getLsbD]
    split
    · next e => rw [e, h]
    · rfl

/-- A rise of TRIPANY that no group watches is recorded, and nothing more. -/
theorem State.followTripany_unwatched (hw : s.Unwatched) (hf : s.GroupsFormed) (ht : s.anyTripped = true) :
    s.followTripany = s.withTripany := by
  have hset : ∀ inputs : BitVec 10, setInput inputs .tripany true = inputs ||| 0x20#10 := fun _ => rfl
  have hgroups : (s.recordInput .tripany true).settledGroups = s.trip.groups := by
    refine Vector.ext fun g hg => ?_
    refine ((s.recordInput .tripany true).group_settledGroups ⟨g, hg⟩).trans ?_
    have hgroup := ((State.groupsFormed_iff s).mp hf).groups ⟨g, hg⟩
    have hcond := conditionOf_setInput (i := .tripany) (hw ⟨g, hg⟩) s.trip.inputs true
    calc
      _ = { s.group ⟨g, hg⟩ with
            state := tableState (s.group ⟨g, hg⟩).state (s.group ⟨g, hg⟩).mode
              (conditionOf (s.group ⟨g, hg⟩) (setInput s.trip.inputs .tripany true)) } := rfl
      _ = s.group ⟨g, hg⟩ := by rw [hcond, ← hgroup]
  have hformed : (s.recordInput .tripany true).GroupsFormed := by
    refine ⟨fun g => ?_, hf.holds, hf.fault⟩
    have hcond := conditionOf_setInput (i := .tripany) (hw g) s.trip.inputs true
    refine (hf.active g).trans ?_
    rw [Group.condition_eq, Group.condition_eq, ← hcond]
    rfl
  unfold State.followTripany
  split
  · next h =>
    have hbit : s.trip.inputs.getLsbD TripInput.tripany.number = true := h.symm.trans ht
    rw [State.withTripany, ← hset, setInput_self hbit]
  · rw [ht]
    change (s.recordInput .tripany true).tripAction (s.recordInput .tripany true).settledGroups = _
    rw [hgroups]
    exact (State.tripAction_self hformed).trans (by rw [State.recordInput, hset]; rfl)

end Kept

/-! ### The third strike -/

/-- The channel's record at its third strike (R79). -/
def ChannelRecord.struck (r : ChannelRecord) (m : Nat) (owner : Option Port) : ChannelRecord :=
  { r with state := .tripped, drive := 0, target := 0, holder := none, strikes := 0, measured := m, tripValue := m
           tripOwner := owner }

/-- The state after the loop's own part in a trip, with the window begun anew. -/
def State.struck (s : State) (c : Channel) (m : Nat) (owner : Option Port) : State :=
  (s.setScan (windowDone s c)).setChannel c ((s.channel c).struck m owner)

section Strike
variable {s : State} {c : Channel} {input : Int} {m : Nat}

/-- The third strike in a row is a trip, and its two consequences. -/
theorem Delivers.trips (h : Delivers s c input m) (hg : (s.channel c).state.guarded = true)
    (hm : (s.channel c).target + (s.channel c).config.guard < m) (hs : 2 ≤ (s.channel c).strikes) {owner : Option Port}
    (ho : (if (s.channel c).state = .releasing then none else s.holderPort c) = owner) :
    exec (.channelConversionEnd c input) s = .next ((s.struck c m owner).afterTrip (s.channel c) c m) := by
  have hx : Measured s c m ((s.channel c).struck m owner) .tripped := by
    refine ((s.channel c).measure_of_trip m (s.holderPort c) hg hm hs).trans ?_
    rw [← ho]
    rfl
  rw [h.exec_eq, hx.measurement]
  rfl

theorem State.struck_trippedAs (s : State) (c : Channel) (m : Nat) (owner : Option Port) :
    (s.struck c m owner).TrippedAs c ((s.channel c).struck m owner) :=
  .of_eq rfl (v := (s.channel c).hold) (State.channel_setChannel_self _ c _)

/-- The loop's part in a trip leaves the groups formed. -/
theorem State.GroupsFormed.struck (h : s.GroupsFormed) (c : Channel) (m : Nat) (owner : Option Port) :
    (s.struck c m owner).GroupsFormed := by
  refine ⟨h.active, fun d => ?_, h.fault⟩
  rw [State.struck, State.channel_setChannel]
  split
  · next e => subst e; exact h.holds d
  · exact h.holds d

/-- Where no group watches TRIPANY, a trip is its report and the rise of TRIPANY. -/
theorem State.afterTrip_unwatched {x : ChannelRecord} (hs : s.TrippedAs c x) (hw : s.Unwatched) (hf : s.GroupsFormed)
    (b : ChannelRecord) (m : Nat) : s.afterTrip b c m = (s.tripReported b c m).allocationPass.withTripany := by
  have hnot : s.tripanyWatched = false := by
    refine Bool.eq_false_iff.mpr fun h => ?_
    obtain ⟨g, -, hg⟩ := List.any_eq_true.mp h
    rw [show (s.group g).inputs.getLsbD TripInput.tripany.number = false from hw g] at hg
    cases hg
  have hreport : TripKept .tripping s (s.reportTrip b c m) := (Moves.reportTrip trivial b c m).tripKept id
  have hw' : (s.reportTrip b c m).Unwatched := fun g => by
    have hg : (s.reportTrip b c m).group g = s.group g := by simp only [State.group, hreport.trip]
    rw [hg]
    exact hw g
  unfold State.afterTrip
  rw [hnot, if_neg (by rintro ⟨h, -⟩; cases h),
    State.followTripany_unwatched hw' (hreport.formed hf) ((State.anyTripped_iff _).mpr ⟨c, hreport.tripped c hs.state⟩),
    State.reportTrip_eq]

end Strike

/-- Settles O49: the measurement trips the channel; the report is taken before or after TRIPANY. -/
theorem thirdStrikeTripsTheChannel : Obligations.ThirdStrikeTripsTheChannel := by
  intro s c input m hd hm hs tripped unwatched withTripany
  refine ⟨fun h r hset hh hgen hr hg => ?granted, fun hrel => ?releasing⟩
  case granted =>
    have hnot : (s.channel c).state ≠ .releasing := fun e => by rw [e] at hset; cases hset
    have hguard : (s.channel c).state.guarded = true := by
      cases e : (s.channel c).state <;> rw [e] at hset <;> first | rfl | cases hset
    have howner : s.holderPort c = some r.port := by
      rw [State.holderPort, hh, Option.bind_some, State.resolve, if_pos hgen, hr]; rfl
    have hexec := hd.trips hguard hm hs ((if_neg hnot).trans howner)
    have hstruck := s.struck_trippedAs c m (some r.port)
    have hslot : ∀ {v}, AfterTripKept c ((s.channel c).struck m (some r.port)) (s.struck c m (some r.port)) v →
        v.slot h.slot = s.slot h.slot := fun hv => hv.slot_eq fun q hq hp => by
      cases hr.symm.trans hq
      rw [hg] at hp
      cases hp
    have report : ∀ {v}, AfterTripKept c ((s.channel c).struck m (some r.port)) (s.struck c m (some r.port)) v →
        v.tripReported (s.channel c) c m =
          { withGrantedLowered (withSlotFreed v h.slot r) r.amount with
            notices := withNotice v r.port (noticeOf v .tripped c (some h) (some m)) } := fun {v} hv =>
      v.tripReported_of_granted c m hnot hh (by rw [hslot hv, hgen]) ((congrArg Slot.record (hslot hv)).trans hr) hg
    refine ⟨?_, fun hw hsettled => ?_⟩
    · obtain ⟨v, hv, ht, hin⟩ := State.afterTrip_chain hstruck (s.channel c) m
      have hw := report hv
      have hfreed : ∀ i, (v.tripReported (s.channel c) c m).slot i =
          if i = h.slot then ⟨(s.slot h.slot).gen + 1#8, none⟩ else v.slot i := fun i => by
        rw [hw, ← hslot hv]
        exact State.slot_setSlot v h.slot i _
      have hnone : (v.tripReported (s.channel c) c m).slot h.slot = ⟨(s.slot h.slot).gen + 1#8, none⟩ :=
        (hfreed h.slot).trans (if_pos rfl)
      refine ⟨_, hexec, (ht.channel ((hv.channel hstruck).reported _ m)).2, ?_, ?_, hin, fun i hi => ?_⟩
      · exact (ht.slot_eq fun q hq => by rw [State.record, hnone] at hq; cases hq).trans hnone
      · rw [State.count, ht.counts, hw]
        have hcounts : v.counts = s.counts := hv.counts
        exact (State.count_setCount_self v r.port _).trans (by rw [State.count, hcounts]; rfl)
      · obtain ⟨h1, h2⟩ := ht.upToState i
        obtain ⟨h3, h4⟩ := hv.upToState i
        have hsame : (v.tripReported (s.channel c) c m).slot i = v.slot i := (hfreed i).trans (if_neg hi)
        exact ⟨by rw [h1, hsame, h3]; rfl, by rw [h2, State.record, hsame]; exact h4⟩
    · rw [hexec, State.afterTrip_unwatched hstruck hw (((State.groupsFormed_iff s).mpr hsettled).struck c m _),
        report (.refl _)]
      rfl
  case releasing =>
    have hguard : (s.channel c).state.guarded = true := by rw [hrel]; rfl
    have hexec := hd.trips hguard hm hs (if_pos hrel)
    have hstruck := s.struck_trippedAs c m none
    refine ⟨?_, fun hw hsettled => ?_⟩
    · obtain ⟨v, hv, ht, hin⟩ := State.afterTrip_chain hstruck (s.channel c) m
      have hw := v.tripReported_of_releasing c m hrel
      refine ⟨_, hexec, (ht.channel ((hv.channel hstruck).reported _ m)).2, ht.release ?_, hin, fun i => ?_⟩
      · rw [hw]
        exact State.releaseOf_setRelease_self v c 0
      · obtain ⟨h1, h2⟩ := ht.upToState i
        rw [hw] at h1 h2
        exact ⟨h1.trans (hv.upToState i).1, h2.trans (hv.upToState i).2⟩
    · rw [hexec, State.afterTrip_unwatched hstruck hw (((State.groupsFormed_iff s).mpr hsettled).struck c m _),
        State.tripReported_of_releasing _ c m hrel]
      rfl

end Sys2Proof.Machine
end

section
/-! SUPPORT. RESTART (R19, R41, R86, R99, R113, R129, R140, R156, R169): once its first blocks have freed every claim, the ends of
the sessions and the pass do nothing at the claims and the loops. -/

namespace Sys2Proof.Machine

/-! ### Sessions that end without claims and soft bits -/

/-- The state without a claim record and without a soft bit. -/
structure State.Bare (s : State) : Prop where
  record : ∀ i, s.record i = none
  soft : ∀ p, (s.session p).soft = false

section Bare
variable {s : State}

theorem State.allocationPass_of_free (h : ∀ i, s.record i = none) : s.allocationPass = s := by
  have hqueue : s.waitQueue = [] := List.eq_nil_iff_forall_not_mem.mpr fun i hi => by
    obtain ⟨r, hr, -⟩ := (s.mem_waitQueue i).mp hi
    cases (h i).symm.trans hr
  rw [State.allocationPass, hqueue]
  rfl

theorem State.reclaim_of_free (h : ∀ i, s.record i = none) (p : Port) : s.reclaim p = s := by
  have hdrops : ∀ l, s.dropsOf p l = s := by
    intro l
    induction l with
    | nil => rfl
    | cons i l ih => rw [State.dropsOf_cons_of_other l (by rw [h i]; nofun), ih]
  rw [State.reclaim_eq, hdrops, State.allocationPass_of_free h]

theorem State.Bare.endSession (h : s.Bare) (p : Port) (result : SessionState) :
    s.endSession p result =
      { s with sessions := s.sessions.set p ((s.session p).ended result), notices := s.notices.set p NoticeQueue.reset } := by
  have hsoft : s.clearSoft p = s := if_neg (by rw [h.soft p]; decide)
  unfold State.endSession
  simp only
  rw [State.reclaim_of_free h.record, hsoft]
  rfl

/-- A session that RESTART ends (R129). -/
def Session.restarted (x : Session) (sup q : Port) : Session :=
  if x.state = .opened then x.ended (if q = sup then .closed else .lapsed) else x

/-- A port as RESTART leaves it, where its session is as given: another port's waiting command is discarded with its session
(R129). -/
def PortState.restarted (y : PortState) (x : Session) (sup q : Port) : PortState :=
  if q ≠ sup ∧ x.state = .opened then waitingDiscarded y else y

/-- The end of one session within RESTART, session and port. -/
theorem State.Bare.restartSession (h : s.Bare) (sup q : Port) :
    ∃ notices, s.restartSession sup q =
      { s with sessions := s.sessions.set q ((s.session q).restarted sup q), notices := notices
               ports := s.ports.set q ((s.port q).restarted (s.session q) sup q) } := by
  unfold State.restartSession Session.restarted PortState.restarted
  by_cases ho : (s.session q).state = .opened
  · rw [if_pos ((State.isOpen_iff s q).mpr ho)]
    refine ⟨s.notices.set q NoticeQueue.reset, ?_⟩
    by_cases hq : q = sup
    · rw [if_pos hq, if_pos ho, if_pos hq, if_neg fun e => e.1 hq, h.endSession, State.port, PerPort.set_get]
    · rw [if_neg hq, if_pos ho, if_neg hq, if_pos ⟨hq, ho⟩, State.lapse_eq, h.endSession]
  · refine ⟨s.notices, ?_⟩
    rw [if_neg fun e => ho ((State.isOpen_iff s q).mp e), if_neg ho, if_neg fun e => ho e.2, State.port, State.session,
      PerPort.set_get, PerPort.set_get]

theorem State.Bare.restartSession_bare (h : s.Bare) (sup q : Port) : (s.restartSession sup q).Bare := by
  obtain ⟨notices, heq⟩ := h.restartSession sup q
  rw [heq]
  refine ⟨h.record, fun p => ?_⟩
  have hsession : (s.setSession q ((s.session q).restarted sup q)).session p = _ := State.session_setSession s q p _
  refine (congrArg Session.soft hsession).trans ?_
  split
  · unfold Session.restarted
    split <;> exact h.soft q
  · exact h.soft p

/-- What the ends of the sessions of a list leave. -/
structure SessionsRestarted (sup : Port) (l : List Port) (s t : State) : Prop where
  session : ∀ q, t.session q = if q ∈ l then (s.session q).restarted sup q else s.session q
  port : ∀ q, t.port q = if q ∈ l then (s.port q).restarted (s.session q) sup q else s.port q
  bare : t.Bare
  rest : t = { s with sessions := t.sessions, notices := t.notices, ports := t.ports }

theorem State.Bare.restartSessions (h : s.Bare) (sup : Port) {l : List Port} (hl : l.Nodup) :
    SessionsRestarted sup l s (l.foldl (fun t q => t.restartSession sup q) s) := by
  induction l generalizing s with
  | nil => exact ⟨fun _ => rfl, fun _ => rfl, h, rfl⟩
  | cons p l ih =>
    obtain ⟨hp, hl⟩ := List.nodup_cons.mp hl
    obtain ⟨notices, heq⟩ := h.restartSession sup p
    have next := ih (h.restartSession_bare sup p) hl
    have hsession : ∀ q, (s.restartSession sup p).session q = if q = p then (s.session p).restarted sup p else s.session q :=
      fun q => by rw [heq]; exact State.session_setSession s p q _
    have hport : ∀ q, (s.restartSession sup p).port q =
        if q = p then (s.port p).restarted (s.session p) sup p else s.port q := fun q => by
      rw [heq]; exact PerPort.get_set ..
    rw [List.foldl_cons]
    refine ⟨fun q => ?_, fun q => ?_, next.bare, ?_⟩
    · rw [next.session, hsession]
      by_cases e : q = p
      · subst e; simp [hp]
      · simp [e]
    · rw [next.port, hport, hsession]
      by_cases e : q = p
      · subst e; simp [hp]
      · simp [e]
    · rw [next.rest, heq]

end Bare

/-! ### The blocks before the sessions -/

section Blocks
variable (s : State)

/-- RESTART at the allocator, the loops and the scanner. -/
def State.restartedBlocks : State := s.restartClaims.restartChannels.restartScanner

theorem State.restartClaims_frame :
    s.restartClaims =
      { s with
        slots := s.restartClaims.slots, stamp := 0, counts := PerPort.const 0
        budget := { s.budget with granted := 0, releasing := 0 }, releases := s.restartClaims.releases } := by
  dsimp only [State.restartClaims]

theorem State.restartChannels_frame : s.restartChannels = { s with channels := s.restartChannels.channels } := by
  dsimp only [State.restartChannels]

/-- All but what the allocator and the loops clear of their own. -/
theorem State.restartedBlocks_frame :
    s.restartedBlocks =
      { s with
        slots := s.restartedBlocks.slots, stamp := 0, counts := PerPort.const 0
        budget := { s.budget with granted := 0, releasing := 0 }, releases := s.restartedBlocks.releases
        channels := s.restartedBlocks.channels
        scan := { s.scan with windows := Vector.replicate 12 ⟨0, 0⟩, railFlag := false } } := by
  have hscanner : ∀ u : State, u.restartScanner =
      { u with scan := { u.scan with windows := Vector.replicate 12 ⟨0, 0⟩, railFlag := false } } := fun _ => rfl
  rw [State.restartedBlocks, hscanner, State.restartChannels_frame, State.restartClaims_frame]

theorem State.restartedBlocks_slot (i : Fin 24) : s.restartedBlocks.slot i = (s.slot i).restart := by
  dsimp only [State.restartedBlocks, State.restartScanner, State.setScan, State.restartChannels, State.restartClaims,
    State.slot]
  exact Vector.getElem_ofFn _

theorem State.restartedBlocks_channel (c : Channel) : s.restartedBlocks.channel c = (s.channel c).restart := by
  have hclaims : s.restartClaims.channel c = s.channel c := by dsimp only [State.restartClaims, State.channel]
  rw [State.restartedBlocks, State.restartScanner, State.channel_of_setScan, State.restartChannels_channel, hclaims]

theorem State.restartedBlocks_releaseOf (c : Channel) : s.restartedBlocks.releaseOf c = 0 := by
  dsimp only [State.restartedBlocks, State.restartScanner, State.setScan, State.restartChannels, State.restartClaims,
    State.releaseOf]
  exact Vector.getElem_replicate _

end Blocks

/-! ### The trip unit (R113) -/

section Groups
variable (s : State)

/-- The inputs with RAIL, TRIPANY and the soft inputs deasserted. -/
def State.pinInputs : BitVec 10 := s.trip.inputs &&& 0xF#10

/-- The groups of RESTART: each by its condition alone. -/
def State.restartedGroups : Vector Group 4 := Vector.ofFn fun g => (s.group g).restart s.pinInputs

theorem State.clearSofts_session (q : Port) : s.clearSofts.session q = { s.session q with soft := false } := by
  cases q <;> rfl

theorem State.restartGroups_eq :
    s.restartGroups =
      (s.clearSofts.setTrip { s.trip with inputs := s.pinInputs }).putGroups s.restartedGroups := by
  unfold State.restartGroups State.restartedGroups State.pinInputs
  rfl

theorem State.restartedGroups_get (g : Fin 4) :
    s.restartedGroups[g] =
      { s.group g with state := if conditionOf (s.group g) s.pinInputs then .active else .idle } := by
  have hg : s.restartedGroups[g] = (s.group g).restart s.pinInputs := Vector.getElem_ofFn _
  rw [hg, Group.restart, Group.condition_eq]

/-- The channels' records, all of them IDLE, take their hold flags and nothing else. -/
structure GroupsRestarted (s t : State) : Prop where
  channel : ∀ c, t.channel c = { s.channel c with hold := heldBy t.trip.groups c }
  session : ∀ q, t.session q = { s.session q with soft := false }
  trip : t.trip = { s.trip with inputs := s.pinInputs, groups := s.restartedGroups
                                fault := someGroupHolds s.restartedGroups }
  budget : t.budget = s.budget
  releaseOf : ∀ c, t.releaseOf c = s.releaseOf c
  rest : t = { s with trip := t.trip, channels := t.channels, releases := t.releases, sessions := t.sessions
                      notices := t.notices, budget := t.budget }

/-- The state as the groups' part finds it: the soft bits cleared, RAIL and TRIPANY deasserted. -/
def State.inputsCleared : State := s.clearSofts.setTrip { s.trip with inputs := s.pinInputs }

theorem State.inputsCleared_frame :
    s.inputsCleared =
      { s with trip := { s.trip with inputs := s.pinInputs }, sessions := s.clearSofts.sessions } := by
  unfold State.inputsCleared State.setTrip
  rw [State.clearSofts_frame]

/-- No channel is RELEASING, so no HOLD ends a wind-down. -/
theorem GroupsRestarted.of_idle {s : State} (h : ∀ c, (s.channel c).state = .idle) : GroupsRestarted s s.restartGroups := by
  have heq : s.restartGroups = s.inputsCleared.putGroups s.restartedGroups := s.restartGroups_eq
  have hframe := s.inputsCleared.putGroups_frame s.restartedGroups
  have hchannel : ∀ c, s.inputsCleared.channel c = s.channel c := fun c => by rw [State.inputsCleared_frame]; rfl
  have hidle : ∀ c, ¬ HoldIdles s.inputsCleared s.restartedGroups c := by
    rintro c ⟨-, -, hc⟩
    rw [hchannel, h c] at hc
    cases hc
  have hreleasing : (s.inputsCleared.putGroups s.restartedGroups).budget.releasing = s.budget.releasing := by
    rw [State.putGroups_releasing]
    simp only [hidle, if_false, List.map_const', List.sum_replicate, smul_zero, Nat.sub_zero]
    rw [State.inputsCleared_frame]
  have htrip : s.restartGroups.trip = { s.trip with inputs := s.pinInputs, groups := s.restartedGroups
                                                    fault := someGroupHolds s.restartedGroups } := by
    rw [heq, hframe, State.inputsCleared_frame]
  have hsessions : s.restartGroups.sessions = s.clearSofts.sessions := by rw [heq, hframe, State.inputsCleared_frame]
  refine ⟨fun c => ?_, fun q => ?_, htrip, ?_, fun c => ?_, ?_⟩
  · rw [htrip, heq, State.putGroups_channel, hchannel]
    exact ChannelRecord.withHold_of_resting (.inl (h c)) _
  · rw [State.session, hsessions]
    exact s.clearSofts_session q
  · rw [heq, hframe, hreleasing, State.inputsCleared_frame]
  · rw [heq, State.putGroups_releaseOf, if_neg (hidle c), State.inputsCleared_frame]
    rfl
  · rw [heq, hframe, State.inputsCleared_frame]

end Groups

/-! ### The whole part -/

section Whole
variable (s : State) (sup : Port)

/-- The state with the sessions ended. -/
def State.restartedSessions : State :=
  allPorts.foldl (fun t q => t.restartSession sup q) s.restartedBlocks.restartGroups

theorem State.restartedGroups_restart : GroupsRestarted s.restartedBlocks s.restartedBlocks.restartGroups :=
  .of_idle fun c => by rw [State.restartedBlocks_channel]; rfl

theorem State.restartGroups_bare : s.restartedBlocks.restartGroups.Bare := by
  have hgroups := s.restartedGroups_restart
  refine ⟨fun i => ?_, fun q => by rw [hgroups.session]⟩
  have hslots : s.restartedBlocks.restartGroups.slots = s.restartedBlocks.slots := by rw [hgroups.rest]
  have hslot : s.restartedBlocks.restartGroups.slot i = (s.slot i).restart := by
    rw [State.slot, hslots]
    exact s.restartedBlocks_slot i
  rw [State.record, hslot]
  exact Slot.restart_record _

theorem State.restartedSessions_ended : SessionsRestarted sup allPorts s.restartedBlocks.restartGroups (s.restartedSessions sup) :=
  s.restartGroups_bare.restartSessions sup (by decide)

theorem State.foldl_emptyNotices (u : State) :
    allPorts.foldl (fun t q => t.emptyNotices q) u =
      { u with notices := ⟨NoticeQueue.reset, NoticeQueue.reset, NoticeQueue.reset, NoticeQueue.reset⟩ } := rfl

/-- What RESTART leaves: no claim is left for the last pass. -/
theorem State.restartPart_eq :
    s.restartPart sup =
      { s.restartedSessions sup with
        notices := ⟨NoticeQueue.reset, NoticeQueue.reset, NoticeQueue.reset, NoticeQueue.reset⟩, cause := .restart } := by
  have hfold : allPorts.foldl (fun t q => t.restartSession sup q)
      s.restartClaims.restartChannels.restartScanner.restartGroups = s.restartedSessions sup := by
    unfold State.restartedSessions State.restartedBlocks
    rfl
  have hfree : ∀ i, (s.restartedSessions sup).record i = none := (s.restartedSessions_ended sup).bare.record
  unfold State.restartPart
  dsimp only
  rw [hfold, State.foldl_emptyNotices]
  generalize s.restartedSessions sup = u at hfree
  exact State.allocationPass_of_free (s := { u with notices := _, cause := .restart }) hfree

end Whole

/-- What RESTART leaves, block by block. -/
structure Restarted (s : State) (sup : Port) (t : State) : Prop where
  slot : ∀ i, t.slot i = (s.slot i).restart
  channel : ∀ c, t.channel c = { (s.channel c).restart with hold := heldBy t.trip.groups c }
  releaseOf : ∀ c, t.releaseOf c = 0
  trip : t.trip = { s.trip with inputs := s.pinInputs, groups := s.restartedGroups, fault := someGroupHolds s.restartedGroups }
  session : ∀ q, t.session q = ({ s.session q with soft := false } : Session).restarted sup q
  port : ∀ q, t.port q = (s.port q).restarted (s.session q) sup q
  notices : ∀ q, t.noticesOf q = NoticeQueue.reset
  rest : t = { s with
    slots := t.slots, stamp := 0, counts := PerPort.const 0, budget := { s.budget with granted := 0, releasing := 0 }
    releases := t.releases, channels := t.channels
    scan := { s.scan with windows := Vector.replicate 12 ⟨0, 0⟩, railFlag := false }, trip := t.trip
    sessions := t.sessions, notices := t.notices, ports := t.ports, cause := .restart }

/-- The three parts of RESTART together, each as its lemma gives it. -/
theorem Restarted.of_parts {s b g e : State} {sup : Port} (slot : ∀ i, b.slot i = (s.slot i).restart)
    (channel : ∀ c, b.channel c = (s.channel c).restart) (release : ∀ c, b.releaseOf c = 0)
    (frame : b = { s with
      slots := b.slots, stamp := 0, counts := PerPort.const 0, budget := { s.budget with granted := 0, releasing := 0 }
      releases := b.releases, channels := b.channels
      scan := { s.scan with windows := Vector.replicate 12 ⟨0, 0⟩, railFlag := false } })
    (hg : GroupsRestarted b g) (he : SessionsRestarted sup allPorts g e) :
    Restarted s sup
      { e with notices := ⟨NoticeQueue.reset, NoticeQueue.reset, NoticeQueue.reset, NoticeQueue.reset⟩, cause := .restart } := by
  have htrip : b.trip = s.trip := by rw [frame]
  have hsessions : b.sessions = s.sessions := by rw [frame]
  have hports : g.ports = s.ports := by rw [hg.rest, frame]
  have heg : e.slots = g.slots ∧ e.channels = g.channels ∧ e.releases = g.releases ∧ e.trip = g.trip := by
    rw [he.rest]; exact ⟨rfl, rfl, rfl, rfl⟩
  obtain ⟨hslots, hchannels, hreleases, htrips⟩ := heg
  have hgb : g.slots = b.slots := by rw [hg.rest]
  have hsession : ∀ q, g.session q = { s.session q with soft := false } := fun q => by
    rw [hg.session, State.session, hsessions]; rfl
  have hall : ∀ q, q ∈ allPorts := fun q => by cases q <;> decide
  have hinputs : b.pinInputs = s.pinInputs := by rw [State.pinInputs, htrip]; rfl
  have hgroups : b.restartedGroups = s.restartedGroups := by
    unfold State.restartedGroups State.group
    rw [hinputs, htrip]
  have hunit : e.trip = { s.trip with inputs := s.pinInputs, groups := s.restartedGroups
                                      fault := someGroupHolds s.restartedGroups } := by
    rw [htrips, hg.trip, hinputs, hgroups, htrip]
  refine ⟨fun i => ?_, fun c => ?_, fun c => ?_, hunit, fun q => ?_, fun q => ?_, fun q => by cases q <;> rfl, ?_⟩
  · refine Eq.trans ?_ (slot i)
    simp only [State.slot, hslots, hgb]
  · have hc : e.channel c = g.channel c := by simp only [State.channel, hchannels]
    refine hc.trans ?_
    rw [hg.channel, channel, ← htrips]
  · have hr : e.releaseOf c = g.releaseOf c := by simp only [State.releaseOf, hreleases]
    exact hr.trans ((hg.releaseOf c).trans (release c))
  · refine (he.session q).trans ?_
    rw [if_pos (hall q), hsession]
  · refine (he.port q).trans ?_
    rw [if_pos (hall q), hsession, State.port, hports]
    rfl
  · have hbudget : g.budget = { s.budget with granted := 0, releasing := 0 } := by rw [hg.budget, frame]
    have hframe : g = { s with
        slots := g.slots, stamp := 0, counts := PerPort.const 0, budget := { s.budget with granted := 0, releasing := 0 }
        releases := g.releases, channels := g.channels
        scan := { s.scan with windows := Vector.replicate 12 ⟨0, 0⟩, railFlag := false }, trip := g.trip
        sessions := g.sessions, notices := g.notices } := by
      refine hg.rest.trans ?_
      rw [hgb, hbudget, frame]
    have hparts : e = { s with
        slots := e.slots, stamp := 0, counts := PerPort.const 0, budget := { s.budget with granted := 0, releasing := 0 }
        releases := e.releases, channels := e.channels
        scan := { s.scan with windows := Vector.replicate 12 ⟨0, 0⟩, railFlag := false }, trip := e.trip
        sessions := e.sessions, notices := e.notices, ports := e.ports } := by
      refine he.rest.trans ?_
      rw [hslots, hchannels, hreleases, htrips, hframe]
    exact congrArg (fun x : State => { x with
      notices := ⟨NoticeQueue.reset, NoticeQueue.reset, NoticeQueue.reset, NoticeQueue.reset⟩, cause := .restart }) hparts

theorem State.restarted (s : State) (sup : Port) : Restarted s sup (s.restartPart sup) := by
  rw [State.restartPart_eq]
  exact .of_parts s.restartedBlocks_slot s.restartedBlocks_channel s.restartedBlocks_releaseOf s.restartedBlocks_frame
    s.restartedGroups_restart (s.restartedSessions_ended sup)

/-- An answer where the command slot is already empty and the pointer names the port. -/
theorem answer_done {t : State} {p : Port} (hp : t.pointer = p) (hcommand : (t.port p).command = none) (c : Command) :
    answer p c (t, .done) = t.answered p c .ok [] := by
  have hport : ∀ (r : Response) (o : Bool), ({ t.port p with command := none, response := some r, overwritten := o } : PortState) =
      { t.port p with response := some r, overwritten := o } := fun r o => by rw [← hcommand]
  unfold State.answered
  rw [hport]
  subst hp
  rfl

/-- Settles O58: RESTART as its sender's command has been taken, block by block. -/
theorem restartClearsRunTimeState : Obligations.RestartClearsRunTimeState := by
  intro s p c h he
  have hr := (s.takeFrom p).restarted p
  have hexec : exec .restart s = .next (answer p c ((s.takeFrom p).restartPart p, .done)) := by
    refine congrArg Host.Outcome.next ?_
    have hcarried : State.carryOut noOperands .openOnly true restartOwn (s.takeFrom p) p c.payload =
        ((s.takeFrom p).restartPart p, .done) :=
      (State.carryOut_own (s := s.takeFrom p) (noOperands_of_nil he) (.inr h.opened) (.inr h.supervisor)).trans
        (restartOwn.eq_1 p () _)
    exact (State.execute_of_takes h.taken h.opcode).trans (congrArg (answer p c) hcarried)
  generalize (s.takeFrom p).restartPart p = t at hr hexec
  have hport : t.port p = { s.port p with command := none } := by
    rw [hr.port, PortState.restarted, if_neg fun e => e.1 rfl]
    exact PerPort.get_set_self ..
  have hother : ∀ q, q ≠ p → t.port q = (s.port q).restarted (s.session q) p q := fun q hq => by
    rw [hr.port]
    exact congrArg (fun y : PortState => y.restarted (s.session q) p q) (PerPort.get_set_ne _ _ hq)
  have hpointer : t.pointer = p := congrArg State.pointer hr.rest
  have hinput : ∀ j, t.input j = match j with | .flt i => s.input (.flt i) | _ => false := fun j => by
    rw [State.input, hr.trip]
    exact getLsbD_flt_mask s.trip.inputs j
  refine ⟨t, hexec.trans (congrArg Host.Outcome.next (answer_done hpointer (by rw [hport]) c)), hr.slot,
    congrArg State.stamp hr.rest, fun q => ?count, congrArg State.budget hr.rest, hr.releaseOf, hr.channel,
    congrArg State.scan hr.rest, fun i => hinput (.flt i), hinput .rail, hinput .tripany, fun q => hinput (.soft q), fun g => ?group,
    ?trip, fun q => ?session, hr.notices, fun q => ?port, ?rest⟩
  case count => exact (congrArg (PerPort.get · q) (congrArg State.counts hr.rest)).trans (PerPort.get_const 0 q)
  case group =>
    rw [State.group, hr.trip]
    exact (s.takeFrom p).restartedGroups_get g
  case trip => rw [hr.trip]; rfl
  case session => exact hr.session q
  case port =>
    by_cases hq : q = p
    · subst hq
      rw [if_neg fun e => e.1 rfl, if_pos rfl, hport]
    · rw [hother q hq, if_neg hq]
      rfl
  case rest =>
    have hcounts : t.counts = PerPort.const 0 := congrArg State.counts hr.rest
    have hbudget : t.budget = { s.budget with granted := 0, releasing := 0 } := congrArg State.budget hr.rest
    have hscan : t.scan = { s.scan with windows := Vector.replicate 12 ⟨0, 0⟩, railFlag := false } :=
      congrArg State.scan hr.rest
    rw [hpointer, hcounts, hbudget, hscan]
    exact hr.rest

end Sys2Proof.Machine
end
